-- ==== Sys2Proof/Word.lean ====
section
/-!
DEFINITION. The widths of the block's words (spec/00_scope.md R7, R10; spec/30_encoding.md R80, R90).
-/

namespace Sys2Proof

/-- A 32-bit frame, bit 31 most significant (R80). -/
abbrev Frame := BitVec 32

/-- A 64-bit command word (R90). -/
abbrev CommandWord := BitVec 64

end Sys2Proof
end

