-- ==== Sys2Proof/Syntax.lean ====
section
/-!
DEFINITION. The instructions as data: one constructor for every row of spec/opcode_table.json (spec/30_encoding.md R80 to R93).
-/

namespace Sys2Proof

/-- A line level (spec/00_scope.md R13): received, ACTIVE is the bit 1 and IDLE the bit 0. -/
inductive Level where
  | idle
  | active
  deriving DecidableEq, Repr, Inhabited

/-- The closed enumeration of message kinds, in the order of their codes (R82). -/
inductive MessageKind where
  | readData
  | writeData
  | invalidData
  | reserved
  | readAck
  | writeAck
  | dataInvalid
  | unknownDataId
  deriving DecidableEq, Repr, Inhabited

/-- The out-of-band operand of TEMP_TO_F88 (R93): an exact rational `num / den`, or one of the operands that are
not rationals, which R117 says have no meaning. -/
inductive Value where
  | ratio (num : Int) (den : Nat)
  | nan
  | posInfinity
  | negInfinity
  deriving DecidableEq, Repr, Inhabited

/-- One constructor per row of the opcode table. The first 22 are R91's operations, the next five the codes R92
reserves, and the last eight the frame kinds of R82: a whole frame on the line, given by its other fields. -/
inductive Instr where
  -- codec (spec/40_codec.md)
  | parity (frame : Frame)
  | buildRequest (kind : MessageKind) (id : BitVec 8) (payload : BitVec 16)
  | isValidResponse (frame : Frame)
  | getKind (frame : Frame)
  | getDataId (frame : Frame)
  | getU16 (frame : Frame)
  | getF88 (frame : Frame)
  | tempToF88 (value : Value)
  | isFault (frame : Frame)
  | isChActive (frame : Frame)
  | isDhwActive (frame : Frame)
  | isFlameOn (frame : Frame)
  | isCoolingActive (frame : Frame)
  | isDiagnostic (frame : Frame)
  -- engine lifecycle and session (spec/43_session.md)
  | start
  | stop
  | send (frame : Frame)
  | sendAndWait (frame : Frame)
  | tick
  | readStatus
  -- internal to SEND (spec/41_transmitter.md), and the edge-event input (spec/42_decoder.md)
  | transmit (frame : Frame)
  | edge (level : Level)
  -- reserved codes of the command port (R92); the last holds the low three bits of its 11xxx code
  | reserved01110
  | reserved01111
  | reserved10110
  | reserved10111
  | reserved11xxx (low : BitVec 3)
  -- frames on the line (R80 to R82)
  | frameReadData (parity : BitVec 1) (spare : BitVec 4) (id : BitVec 8) (payload : BitVec 16)
  | frameWriteData (parity : BitVec 1) (spare : BitVec 4) (id : BitVec 8) (payload : BitVec 16)
  | frameInvalidData (parity : BitVec 1) (spare : BitVec 4) (id : BitVec 8) (payload : BitVec 16)
  | frameReserved (parity : BitVec 1) (spare : BitVec 4) (id : BitVec 8) (payload : BitVec 16)
  | frameReadAck (parity : BitVec 1) (spare : BitVec 4) (id : BitVec 8) (payload : BitVec 16)
  | frameWriteAck (parity : BitVec 1) (spare : BitVec 4) (id : BitVec 8) (payload : BitVec 16)
  | frameDataInvalid (parity : BitVec 1) (spare : BitVec 4) (id : BitVec 8) (payload : BitVec 16)
  | frameUnknownDataId (parity : BitVec 1) (spare : BitVec 4) (id : BitVec 8) (payload : BitVec 16)
  deriving DecidableEq, Repr

end Sys2Proof
end

