-- ==== Sys2Proof/Config.lean ====
section
/-!
DEFINITION. The parameters of spec/00_scope.md R9, which a machine is built with and no step writes.
-/

namespace Sys2Proof

/-- `FLAG_POS` (R9): which bit 0..7 of the payload each status-flag operation reads. -/
structure FlagPos where
  fault         : Fin 8
  chActive      : Fin 8
  dhwActive     : Fin 8
  flameOn       : Fin 8
  coolingActive : Fin 8
  diagnostic    : Fin 8
  deriving DecidableEq, Repr

/-- The parameters of R9 that a rule of the block reads. DESIGN CHOICE (log entry 11): `State` holds one, so a
statement about every state is a statement about every choice of the parameters. -/
structure Config where
  /-- `STOP_BIT_CHECK` (spec/42_decoder.md R156). -/
  stopBitCheck   : Bool
  /-- `TICK_SPLIT_PHASE` (spec/43_session.md R192). -/
  tickSplitPhase : Bool
  /-- `FLAG_POS` (spec/40_codec.md R118 to R123). -/
  flagPos        : FlagPos
  /-- `CLOCK_WIDTH`: the width W of the clock and of `ts`. -/
  clockWidth     : Nat
  deriving DecidableEq, Repr

/-- The defaults of R9. -/
def FlagPos.default : FlagPos where
  fault         := 0
  chActive      := 1
  dhwActive     := 2
  flameOn       := 3
  coolingActive := 4
  diagnostic    := 6

/-- The default configuration of R9. -/
def Config.default : Config where
  stopBitCheck   := false
  tickSplitPhase := false
  flagPos        := FlagPos.default
  clockWidth     := 64

/-- An electrical level of the output pin; the spec names none. -/
inductive PinLevel where
  | low
  | high
  deriving DecidableEq, Repr, Inhabited

/-- `OUT_POLARITY` (R9, R13; D5: OPEN, outside the block): the electrical level each symbol drives. A free value
(log entry 12): no proof can see what it is, and no rule of the block reads it. -/
opaque Config.outPolarity : Level → PinLevel

end Sys2Proof
end

