-- ==== Sys2Proof/WellFormed.lean ====
section
/-!
DEFINITION. Which terms of the syntax are instructions. Every field but TEMP_TO_F88's value has exactly the bits
spec/30_encoding.md R90 gives it, so that value is the one thing to check.
-/

namespace Sys2Proof

/-- A rational has a denominator that is not 0 (R93). NaN and the infinities can be presented to the port, which
refuses them (R117), so they are well formed. -/
def Value.wf : Value → Bool
  | .ratio _ den => den != 0
  | .nan | .posInfinity | .negInfinity => true

/-- Well-formed instructions: all but a TEMP_TO_F88 whose rational has denominator 0. -/
def Instr.wf : Instr → Bool
  | .tempToF88 v => v.wf
  | .parity _ | .buildRequest _ _ _ | .isValidResponse _ | .getKind _ | .getDataId _ | .getU16 _ | .getF88 _
  | .isFault _ | .isChActive _ | .isDhwActive _ | .isFlameOn _ | .isCoolingActive _ | .isDiagnostic _
  | .start | .stop | .send _ | .sendAndWait _ | .tick | .readStatus | .transmit _ | .edge _
  | .reserved01110 | .reserved01111 | .reserved10110 | .reserved10111 | .reserved11xxx _
  | .frameReadData _ _ _ _ | .frameWriteData _ _ _ _ | .frameInvalidData _ _ _ _ | .frameReserved _ _ _ _
  | .frameReadAck _ _ _ _ | .frameWriteAck _ _ _ _ | .frameDataInvalid _ _ _ _
  | .frameUnknownDataId _ _ _ _ => true

end Sys2Proof
end

