-- ==== Sys2Proof/Decode.lean ====
section
/-!
DEFINITION. The decoder and the encoder (spec/30_encoding.md R80 to R93; spec/opcode_table.json). A word means
different things on different inputs (R92: EDGE's code is an operation on the edge-event input and is none on the
command port), so what is decoded is a packet: the word together with the input that carries it.
-/

namespace Sys2Proof

/-- What reaches the block, with the input it comes on. -/
inductive Packet where
  /-- a command word on the command port, with the out-of-band `value` (R90) -/
  | command (word : CommandWord) (value : Value)
  /-- the transmitter's internal request from SEND (R92) -/
  | internal (word : CommandWord)
  /-- a word on the edge-event input (R91) -/
  | edge (word : CommandWord)
  /-- a whole frame on the receive line (R80, R87) -/
  | line (frame : Frame)
  deriving DecidableEq, Repr

/-- Why a packet is no instruction. The command port and the line refuse none: every code of the port is an
operation or a reserved code (R91, R92) and every kind code is defined (R82). -/
inductive DecodeError where
  /-- a word on the edge-event input whose code is not EDGE's 11001: only EDGE comes there (R91) -/
  | notEdge
  /-- an internal request whose code is not TRANSMIT's 11000 (R91) -/
  | notTransmit
  deriving DecidableEq, Repr

/-! ### Codes -/

/-- The codes of the message kinds (R82). -/
def MessageKind.code : MessageKind → BitVec 3
  | .readData      => 0b000#3
  | .writeData     => 0b001#3
  | .invalidData   => 0b010#3
  | .reserved      => 0b011#3
  | .readAck       => 0b100#3
  | .writeAck      => 0b101#3
  | .dataInvalid   => 0b110#3
  | .unknownDataId => 0b111#3

/-- The kind of a code; "all 8 codes are defined" (R82). -/
def MessageKind.ofCode (c : BitVec 3) : MessageKind :=
  match c with
  | 0b000#3 => .readData
  | 0b001#3 => .writeData
  | 0b010#3 => .invalidData
  | 0b011#3 => .reserved
  | 0b100#3 => .readAck
  | 0b101#3 => .writeAck
  | 0b110#3 => .dataInvalid
  | _       => .unknownDataId

/-- The bit of a received level (spec/00_scope.md R13). -/
def Level.bit : Level → BitVec 1
  | .idle   => 0#1
  | .active => 1#1

/-- The level of a received bit (R13). -/
def Level.ofBit (b : BitVec 1) : Level := if b = 1#1 then .active else .idle

/-! ### Fields -/

/-- The fields of a command word (R90). -/
def opField (w : CommandWord) : BitVec 5 := w.extractLsb' 59 5
def kindField (w : CommandWord) : BitVec 3 := w.extractLsb' 56 3
def idField (w : CommandWord) : BitVec 8 := w.extractLsb' 48 8
def payloadField (w : CommandWord) : BitVec 16 := w.extractLsb' 32 16
def frameField (w : CommandWord) : Frame := w.extractLsb' 0 32
def levelField (w : CommandWord) : BitVec 1 := w.extractLsb' 0 1

/-- A command word from its fields (R90). -/
def commandWord (op : BitVec 5) (kind : BitVec 3) (id : BitVec 8) (payload : BitVec 16) (frame : Frame) :
    CommandWord :=
  op.setWidth 64 <<< 59 ||| kind.setWidth 64 <<< 56 ||| id.setWidth 64 <<< 48 ||| payload.setWidth 64 <<< 32
    ||| frame.setWidth 64

/-- A command word that uses the `frame` field alone; every field an operation does not use is written 0. -/
def frameCommand (op : BitVec 5) (frame : Frame) : CommandWord := commandWord op 0#3 0#8 0#16 frame

/-- A command word that uses no operand field. -/
def plainCommand (op : BitVec 5) : CommandWord := commandWord op 0#3 0#8 0#16 0#32

/-- The fields of a frame (R81). -/
def frameParity (f : Frame) : BitVec 1 := f.extractLsb' 31 1
def frameKindCode (f : Frame) : BitVec 3 := f.extractLsb' 28 3
def frameSpare (f : Frame) : BitVec 4 := f.extractLsb' 24 4
def frameId (f : Frame) : BitVec 8 := f.extractLsb' 16 8
def framePayload (f : Frame) : BitVec 16 := f.extractLsb' 0 16

/-- A frame from its fields, `{P, K, S, ID, V}` (R81). -/
def frameOf (p : BitVec 1) (k : BitVec 3) (s : BitVec 4) (id : BitVec 8) (v : BitVec 16) : Frame :=
  p.setWidth 32 <<< 31 ||| k.setWidth 32 <<< 28 ||| s.setWidth 32 <<< 24 ||| id.setWidth 32 <<< 16
    ||| v.setWidth 32

/-! ### Decoding -/

/-- The command port (R91, R92). The last arm is reached by the codes 11xxx alone, TRANSMIT's and EDGE's among
them. -/
def decodeCommand (w : CommandWord) (value : Value) : Instr :=
  match opField w with
  | 0b00000#5 => .parity (frameField w)
  | 0b00001#5 => .buildRequest (MessageKind.ofCode (kindField w)) (idField w) (payloadField w)
  | 0b00010#5 => .isValidResponse (frameField w)
  | 0b00011#5 => .getKind (frameField w)
  | 0b00100#5 => .getDataId (frameField w)
  | 0b00101#5 => .getU16 (frameField w)
  | 0b00110#5 => .getF88 (frameField w)
  | 0b00111#5 => .tempToF88 value
  | 0b01000#5 => .isFault (frameField w)
  | 0b01001#5 => .isChActive (frameField w)
  | 0b01010#5 => .isDhwActive (frameField w)
  | 0b01011#5 => .isFlameOn (frameField w)
  | 0b01100#5 => .isCoolingActive (frameField w)
  | 0b01101#5 => .isDiagnostic (frameField w)
  | 0b01110#5 => .reserved01110
  | 0b01111#5 => .reserved01111
  | 0b10000#5 => .start
  | 0b10001#5 => .stop
  | 0b10010#5 => .send (frameField w)
  | 0b10011#5 => .sendAndWait (frameField w)
  | 0b10100#5 => .tick
  | 0b10101#5 => .readStatus
  | 0b10110#5 => .reserved10110
  | 0b10111#5 => .reserved10111
  | op        => .reserved11xxx (op.extractLsb' 0 3)

/-- A frame on the line, by its kind (R82). -/
def decodeFrame (f : Frame) : Instr :=
  match MessageKind.ofCode (frameKindCode f) with
  | .readData      => .frameReadData (frameParity f) (frameSpare f) (frameId f) (framePayload f)
  | .writeData     => .frameWriteData (frameParity f) (frameSpare f) (frameId f) (framePayload f)
  | .invalidData   => .frameInvalidData (frameParity f) (frameSpare f) (frameId f) (framePayload f)
  | .reserved      => .frameReserved (frameParity f) (frameSpare f) (frameId f) (framePayload f)
  | .readAck       => .frameReadAck (frameParity f) (frameSpare f) (frameId f) (framePayload f)
  | .writeAck      => .frameWriteAck (frameParity f) (frameSpare f) (frameId f) (framePayload f)
  | .dataInvalid   => .frameDataInvalid (frameParity f) (frameSpare f) (frameId f) (framePayload f)
  | .unknownDataId => .frameUnknownDataId (frameParity f) (frameSpare f) (frameId f) (framePayload f)

/-- The instruction of a packet. -/
def decode : Packet → Except DecodeError Instr
  | .command w value => .ok (decodeCommand w value)
  | .internal w => if opField w = 0b11000#5 then .ok (.transmit (frameField w)) else .error .notTransmit
  | .edge w => if opField w = 0b11001#5 then .ok (.edge (Level.ofBit (levelField w))) else .error .notEdge
  | .line f => .ok (decodeFrame f)

/-! ### Encoding -/

/-- The packet of an instruction, from R81, R90, R91 and R92. The out-of-band value of a command that has none
is written 0. -/
def encode : Instr → Packet
  | .parity f => .command (frameCommand 0b00000#5 f) (.ratio 0 1)
  | .buildRequest k id v => .command (commandWord 0b00001#5 k.code id v 0#32) (.ratio 0 1)
  | .isValidResponse f => .command (frameCommand 0b00010#5 f) (.ratio 0 1)
  | .getKind f => .command (frameCommand 0b00011#5 f) (.ratio 0 1)
  | .getDataId f => .command (frameCommand 0b00100#5 f) (.ratio 0 1)
  | .getU16 f => .command (frameCommand 0b00101#5 f) (.ratio 0 1)
  | .getF88 f => .command (frameCommand 0b00110#5 f) (.ratio 0 1)
  | .tempToF88 x => .command (plainCommand 0b00111#5) x
  | .isFault f => .command (frameCommand 0b01000#5 f) (.ratio 0 1)
  | .isChActive f => .command (frameCommand 0b01001#5 f) (.ratio 0 1)
  | .isDhwActive f => .command (frameCommand 0b01010#5 f) (.ratio 0 1)
  | .isFlameOn f => .command (frameCommand 0b01011#5 f) (.ratio 0 1)
  | .isCoolingActive f => .command (frameCommand 0b01100#5 f) (.ratio 0 1)
  | .isDiagnostic f => .command (frameCommand 0b01101#5 f) (.ratio 0 1)
  | .start => .command (plainCommand 0b10000#5) (.ratio 0 1)
  | .stop => .command (plainCommand 0b10001#5) (.ratio 0 1)
  | .send f => .command (frameCommand 0b10010#5 f) (.ratio 0 1)
  | .sendAndWait f => .command (frameCommand 0b10011#5 f) (.ratio 0 1)
  | .tick => .command (plainCommand 0b10100#5) (.ratio 0 1)
  | .readStatus => .command (plainCommand 0b10101#5) (.ratio 0 1)
  | .transmit f => .internal (frameCommand 0b11000#5 f)
  | .edge l => .edge (frameCommand 0b11001#5 (l.bit.setWidth 32))
  | .reserved01110 => .command (plainCommand 0b01110#5) (.ratio 0 1)
  | .reserved01111 => .command (plainCommand 0b01111#5) (.ratio 0 1)
  | .reserved10110 => .command (plainCommand 0b10110#5) (.ratio 0 1)
  | .reserved10111 => .command (plainCommand 0b10111#5) (.ratio 0 1)
  | .reserved11xxx low => .command (plainCommand (0b11000#5 ||| low.setWidth 5)) (.ratio 0 1)
  | .frameReadData p s id v => .line (frameOf p 0b000#3 s id v)
  | .frameWriteData p s id v => .line (frameOf p 0b001#3 s id v)
  | .frameInvalidData p s id v => .line (frameOf p 0b010#3 s id v)
  | .frameReserved p s id v => .line (frameOf p 0b011#3 s id v)
  | .frameReadAck p s id v => .line (frameOf p 0b100#3 s id v)
  | .frameWriteAck p s id v => .line (frameOf p 0b101#3 s id v)
  | .frameDataInvalid p s id v => .line (frameOf p 0b110#3 s id v)
  | .frameUnknownDataId p s id v => .line (frameOf p 0b111#3 s id v)

/-! ### The opcode table's numbering -/

/-- The packet a row of the opcode table stands for (log entry 16): a 32-bit row is a frame on the line, and a
64-bit word goes to the input that its code is an operation of: 11000 to the transmitter, 11001 to the edge-event
input, every other code to the command port, with the out-of-band value 0. -/
def tablePacket (nbits w : Nat) : Option Packet :=
  if nbits = 32 then some (.line (BitVec.ofNat 32 w))
  else if nbits = 64 then
    let word : CommandWord := BitVec.ofNat 64 w
    if opField word = 0b11000#5 then some (.internal word)
    else if opField word = 0b11001#5 then some (.edge word)
    else some (.command word (.ratio 0 1))
  else none

/-- The instruction the decoder reads from a row's bits. -/
def decodeTableWord (nbits w : Nat) : Option Instr :=
  match tablePacket nbits w with
  | some p =>
    match decode p with
    | .ok i => some i
    | .error _ => none
  | none => none

end Sys2Proof
end

