-- ==== Sys2Proof/Machine/Operands.lean ====
section
/-!
DEFINITION. Operand forms (spec/30_encoding.md R81, R85, R93): a frame's fields as the codec reads them, TEMP_TO_F88's
value, and the truncation of operands that are given wider than their fields.
-/

namespace Sys2Proof.Machine

/-- The kind of a frame (R82). -/
def kindOf (f : Frame) : MessageKind := MessageKind.ofCode (frameKindCode f)

/-- The payload as a signed fixed-point number: q with value q/256 (spec/40_codec.md R116). -/
def fixedPointOf (p : BitVec 16) : Int :=
  if p.getLsbD 15 = true then (p.toNat : Int) - 65536 else (p.toNat : Int)

/-- TEMP_TO_F88 of the rational `num / den`, `den ≠ 0`: clamped to [0, 100], scaled by 256, floored (R117). -/
def scaledTemperature (num : Int) (den : Nat) : Nat :=
  if num < 0 then 0
  else if num > 100 * (den : Int) then 100 * 256
  else num.toNat * 256 / den

/-- TEMP_TO_F88 of an operand; none for an operand that is no rational (R117). DESIGN CHOICE (log entry 18): a
quotient by 0 is no rational. -/
def temperatureOf : Value → Option (BitVec 16)
  | .ratio num den => if den = 0 then none else some (BitVec.ofNat 16 (scaledTemperature num den))
  | .nan => none
  | .posInfinity => none
  | .negInfinity => none

/-- BUILD_REQUEST given numbers that may be wider than its fields, each reduced to its width (R93). -/
def buildRequestOf (kind id payload : Nat) : Instr :=
  .buildRequest (MessageKind.ofCode (BitVec.ofNat 3 kind)) (BitVec.ofNat 8 id) (BitVec.ofNat 16 payload)

end Sys2Proof.Machine
end

