-- ==== Sys2Proof/Machine/Flags.lean ====
section
/-!
DEFINITION. The one-bit values that the codec computes: parity, validity and the status flags. The block has no flags
register and no operation sets a flag as a side effect (spec/10_state.md R38).
-/

namespace Sys2Proof.Machine

/-- How many of the bits below `n` are 1. -/
def onesBelow (f : Frame) : Nat → Nat
  | 0 => 0
  | n + 1 => onesBelow f n + (f.getLsbD n).toNat

/-- `popcount` of a frame (spec/00_scope.md R10). -/
def popcount (f : Frame) : Nat := onesBelow f 32

/-- PARITY: is the count of 1 bits, bit 31 included, odd (spec/40_codec.md R110)? -/
def oddParity (f : Frame) : Bool := popcount f % 2 == 1

/-- IS_VALID_RESPONSE: even count, and a kind that is READ_ACK or WRITE_ACK (R112). -/
def validResponse (f : Frame) : Bool :=
  if oddParity f = true then false else kindOf f == .readAck || kindOf f == .writeAck

/-- The payload bit at a position of `FLAG_POS` (R118 to R123). -/
def flagBit (f : Frame) (pos : Fin 8) : Bool := f.getLsbD pos.val

end Sys2Proof.Machine
end

