-- ==== Sys2Proof/Machine/State.lean ====
section
/-!
DEFINITION. The state of the block: every register of spec/10_state.md R20, its inputs and outputs (R33, R34), the
refusal mark (spec/60_exceptions.md R223), the polling agent's place in a long command, and the parameters (R9).
There is no memory (R39) and no program counter (R37).
-/

namespace Sys2Proof.Machine

/-- The nine session states, in the order of their codes (R21). -/
inductive SessionState where
  | uninitialized
  | ready
  | sending
  | awaitingStart
  | startReceived
  | receiving
  | frameReady
  | frameInvalid
  | quietPeriod
  deriving DecidableEq, Repr

/-- The exchange outcomes, in the order of their codes (R24). -/
inductive ExchangeOutcome where
  | none
  | success
  | invalid
  | timeout
  deriving DecidableEq, Repr

/-- The values of the output line (R29). -/
inductive TxLine where
  | undriven
  | idle
  | active
  deriving DecidableEq, Repr

/-- Which long command occupies the command port (R31). -/
inductive Port where
  | free
  | tx
  | wake
  | wait
  deriving DecidableEq, Repr

/-- The closed list of reasons for refusing a command (R223). -/
inductive RefusalReason where
  | notAnOperation
  | clockPremise
  | engineStopped
  | alreadyStarted
  | notANumber
  deriving DecidableEq, Repr

/-- One completion event DONE(frame, outcome) (R34), with the clock value of the step that emitted it. -/
structure DoneEvent where
  frame   : Frame
  outcome : ExchangeOutcome
  time    : Nat
  deriving DecidableEq, Repr

/-- The result a command returns (spec/30_encoding.md R94). Commands whose result is "none" return nothing. -/
inductive CommandResult where
  /-- a 1-bit result: PARITY, IS_VALID_RESPONSE, the six status flags -/
  | bit (b : Bool)
  /-- a frame: BUILD_REQUEST, SEND_AND_WAIT -/
  | frame (f : Frame)
  /-- GET_KIND -/
  | kind (k : MessageKind)
  /-- GET_DATA_ID -/
  | dataId (id : BitVec 8)
  /-- GET_U16 -/
  | unsigned (v : BitVec 16)
  /-- GET_F88: the number q whose value is q/256 -/
  | fixedPoint (q : Int)
  /-- TEMP_TO_F88 -/
  | payload (v : BitVec 16)
  /-- SEND: was the frame accepted -/
  | accepted (b : Bool)
  /-- READ_STATUS: the state code, the outcome code and the response -/
  | status (state : BitVec 4) (outcome : BitVec 2) (response : Frame)
  deriving DecidableEq, Repr

/-- What the first step of a split tick took: the state and the elapsed time (R192). -/
structure TickSnapshot where
  state   : SessionState
  elapsed : Nat
  deriving DecidableEq, Repr

/-- One thing the host or an agent does next (R33, R236; log entry 1). -/
inductive Input where
  /-- the polling agent issues a command word, with TEMP_TO_F88's out-of-band value -/
  | command (word : CommandWord) (value : Value)
  /-- the edge agent delivers a word of the edge-event input -/
  | edge (word : CommandWord)
  /-- the polling agent takes the next step of the long command it is occupied by -/
  | resume
  /-- the nominal edges of a frame begin on the receive line (spec/30_encoding.md R89, `EDGES` of R96) -/
  | frame (frame : Frame)
  /-- the host resets the block (spec/70_reset_and_hazards.md R250) -/
  | reset
  deriving DecidableEq, Repr

/-- An input with the clock value its step samples. -/
structure Event where
  time  : Nat
  input : Input
  deriving DecidableEq, Repr

/-- The state of the block. -/
structure State where
  /-- the session state (R21) -/
  state       : SessionState
  /-- the response accumulator and last response frame (R23) -/
  response    : Frame
  /-- the last exchange outcome (R24) -/
  outcome     : ExchangeOutcome
  /-- the timestamp of the last recorded transition, in microseconds, a `CLOCK_WIDTH`-bit number (R25) -/
  ts          : Nat
  /-- the received-bit counter (R26) -/
  bitcount    : BitVec 6
  /-- edge delivery enabled (R27) -/
  edgeEn      : Bool
  /-- the engine has been shut down (R28) -/
  shut        : Bool
  /-- the output line (R29) -/
  txLine      : TxLine
  /-- the frame being transmitted (R30) -/
  txFrame     : Frame
  /-- the index of the next half-bit to drive (R30) -/
  txH         : BitVec 7
  /-- which long command occupies the command port (R31) -/
  port        : Port
  /-- the transmission belongs to a SEND_AND_WAIT, so WAIT follows it (R185; log entry 8) -/
  waitAfterTx : Bool
  /-- the snapshot of a split tick between its two steps (R192; log entry 9) -/
  tickSnap    : Option TickSnapshot
  /-- the least `now` of the polling agent's next step: the end of its hold (spec/20_memory.md R67; log entry 8) -/
  holdUntil   : Nat
  /-- the clock input as the latest step sampled it, a `CLOCK_WIDTH`-bit number (R33; log entry 2) -/
  now         : Nat
  /-- the host's events still to be delivered, in the order of their delivery (R33; log entry 1) -/
  inputs      : List Event
  /-- the completion output: every DONE so far, oldest first (R34) -/
  doneLog     : List DoneEvent
  /-- the command results so far, oldest first (R34) -/
  resultLog   : List CommandResult
  /-- the refusal mark: the reason of the first refusal of the run (R223; log entry 3) -/
  mark        : Option RefusalReason
  /-- the parameters (R9; log entry 11) -/
  cfg         : Config
  deriving DecidableEq, Repr

/-- Why the machine stops: runs that have no move in the model (R236). No command and no event faults. -/
inductive Fault where
  /-- Raised by `fetch` when a command comes while the polling agent is occupied by another. Safe: R236 says that
  such a run "has no move". -/
  | commandWhileBusy
  /-- Raised by `fetch` when a word on the edge-event input is not an EDGE. Safe: only EDGE comes there (R91,
  R230), and R236 gives such a run no move. -/
  | notAnEdgeWord
  deriving DecidableEq, Repr

/-- The model's own refusals. The spec's refusals (R223) are no stops: they are next states with a mark. -/
inductive Refusal where
  /-- Raised by `exec` alone, for an instruction that has no meaning yet. Safe. No arm raises it. -/
  | notModelled (mnemonic : String)
  deriving DecidableEq, Repr

/-- The block after reset (R41), with no event to come, nothing emitted and the default parameters (R9). The
values of `waitAfterTx`, `tickSnap`, `holdUntil`, `now` and `inputs` are the model's (log entries 1, 2, 8, 9). -/
def State.reset : State where
  state       := .uninitialized
  response    := 0
  outcome     := .none
  ts          := 0
  bitcount    := 0
  edgeEn      := false
  shut        := false
  txLine      := .undriven
  txFrame     := 0
  txH         := 0
  port        := .free
  waitAfterTx := false
  tickSnap    := .none
  holdUntil   := 0
  now         := 0
  inputs      := []
  doneLog     := []
  resultLog   := []
  mark        := .none
  cfg         := Config.default

end Sys2Proof.Machine
end

