-- ==== Sys2Proof/Machine/Timing.lean ====
section
/-!
DEFINITION. The timing constants of spec/00_scope.md R8, in microseconds. They are unaudited (D35, U17), so every
rule uses the name.
-/

namespace Sys2Proof.Machine

/-- `T_HALF`: one half-bit on the output line. -/
def tHalf : Nat := 500

/-- `T_BIT`: one bit period. -/
def tBit : Nat := 2 * tHalf

/-- `T_SAMPLE`: the decoder's threshold. -/
def tSample : Nat := 750

/-- `T_TIMEOUT`: the exchange deadline that TICK checks. -/
def tTimeout : Nat := 800000

/-- `T_QUIET`: the quiet period that TICK checks. -/
def tQuiet : Nat := 100000

/-- `T_WAKE`: START's idle-state hold. -/
def tWake : Nat := 1000000

/-- `T_FRAME`: the nominal transmit duration. -/
def tFrame : Nat := 68 * tHalf

end Sys2Proof.Machine
end

