-- ==== Sys2Proof/Machine/Ops.lean ====
section
/-!
DEFINITION. The named operations over the state: the primitives of spec/00_scope.md R12, the register codes, and
the few sequences that several rules share. The block takes no exception and returns from none (spec/60_exceptions.md
R220, R228); what stands in their place is `State.refuse` (R223) and `State.report` (R227).
-/

namespace Sys2Proof.Machine

/-! ### Register codes -/

/-- The code of a session state (spec/10_state.md R21). -/
def SessionState.code : SessionState → BitVec 4
  | .uninitialized => 0
  | .ready         => 1
  | .sending       => 2
  | .awaitingStart => 3
  | .startReceived => 4
  | .receiving     => 5
  | .frameReady    => 6
  | .frameInvalid  => 7
  | .quietPeriod   => 8

/-- The code of an exchange outcome (R24). -/
def ExchangeOutcome.code : ExchangeOutcome → BitVec 2
  | .none    => 0
  | .success => 1
  | .invalid => 2
  | .timeout => 3

/-- The output line driven to a level (R29). -/
def TxLine.ofLevel : Level → TxLine
  | .idle   => .idle
  | .active => .active

/-- The electrical level of the output pin, none while it is undriven (spec/00_scope.md R9, R13: outside the
block; log entry 12). -/
def State.txPin (s : State) : Option PinLevel :=
  match s.txLine with
  | .undriven => none
  | .idle     => some (Config.outPolarity .idle)
  | .active   => some (Config.outPolarity .active)

/-! ### The clock -/

/-- A clock count as a `CLOCK_WIDTH`-bit input shows it (R9, R33). -/
def State.clockInput (s : State) (time : Nat) : Nat := time % 2 ^ s.cfg.clockWidth

/-- The step samples the clock input (R12 `now`). -/
def State.sample (s : State) (n : Nat) : State := { s with now := n }

/-- `elapsed(t)` of R12: `(now - t) mod 2^CLOCK_WIDTH`. -/
def State.elapsed (s : State) (t : Nat) : Nat :=
  (((s.now : Int) - (t : Int)) % ((2 ^ s.cfg.clockWidth : Nat) : Int)).toNat

/-! ### Primitives -/

/-- `drive(L)` of R12. -/
def State.drive (s : State) (l : Level) : State := { s with txLine := TxLine.ofLevel l }

/-- `hold(d)` of R12: the polling agent's next step comes at least `d` later (spec/20_memory.md R67). -/
def State.hold (s : State) (d : Nat) : State := { s with holdUntil := s.now + d }

/-- `return v` of R12: the value goes on the command result. -/
def State.pushResult (s : State) (r : CommandResult) : State := { s with resultLog := s.resultLog ++ [r] }

/-- `emit DONE(f, o)` of R12. -/
def State.emitDone (s : State) (f : Frame) (o : ExchangeOutcome) : State :=
  { s with doneLog := s.doneLog ++ [{ frame := f, outcome := o, time := s.now }] }

/-- `refuse(reason)` of R12 and R223: the mark is recorded and kept, and nothing else changes. DESIGN CHOICE (log
entry 3): a later refusal leaves the first mark. -/
def State.refuse (s : State) (r : RefusalReason) : State :=
  { s with mark := match s.mark with
                   | none => some r
                   | some first => some first }

/-! ### Shared sequences -/

/-- The first line of every session command: `if shut == 1: refuse(ENGINE_STOPPED)` (spec/43_session.md R182). -/
def State.unlessShut (s : State) (body : State) : State :=
  if s.shut = true then s.refuse .engineStopped else body

/-- The report of an exchange: `outcome <- o`, `emit DONE(response, o)`, `state <- next` (R187 to R189). -/
def State.report (s : State) (o : ExchangeOutcome) (next : SessionState) : State :=
  { s.emitDone s.response o with outcome := o, state := next }

/-- The writes of an accepted SEND (R183), which SEND_AND_WAIT makes too (R185). The transmitter's first step may
come at once, so the hold is 0 (log entry 7). -/
def State.beginExchange (s : State) (f : Frame) (wait : Bool) : State :=
  { s.hold 0 with
    state       := .sending
    response    := 0
    outcome     := .none
    txFrame     := f
    txH         := 0
    port        := .tx
    waitAfterTx := wait }

/-- The polling agent is occupied by a command: a long one that holds `port` (R31), or a split TICK between its two
steps (R192; log entry 9). -/
def State.busy (s : State) : Bool := s.port != .free || s.tickSnap.isSome

/-- Reset (spec/70_reset_and_hazards.md R250): every register at its value of R41. The clock, the events to come,
what has been emitted, the mark and the parameters are no registers of the block (log entry 14). -/
def State.hostReset (s : State) : State :=
  { State.reset with
    now       := s.now
    inputs    := s.inputs
    doneLog   := s.doneLog
    resultLog := s.resultLog
    mark      := s.mark
    cfg       := s.cfg }

/-- Put an edge among the events to come, after all that are not later than it (log entry 15). -/
def insertEvent (e : Event) : List Event → List Event
  | [] => [e]
  | x :: rest => if e.time < x.time then e :: x :: rest else x :: insertEvent e rest

/-- Put edges, earliest first, among the events to come. -/
def State.schedule (s : State) (edges : List Event) : State :=
  { s with inputs := edges.foldl (fun q e => insertEvent e q) s.inputs }

end Sys2Proof.Machine
end

