-- ==== Sys2Proof/Machine/Codec.lean ====
section
/-!
DEFINITION. The frame codec (spec/40_codec.md R110 to R127). Every operation returns a result and changes no
register (R124), and the extractions read the bits of every frame, valid or not (R125).
-/

namespace Sys2Proof.Machine

/-- The frame of BUILD_REQUEST (R111). -/
def requestFrame (kind : MessageKind) (id : BitVec 8) (payload : BitVec 16) : Frame :=
  let fields : Frame := payload.setWidth 32 ||| id.setWidth 32 <<< 16
  let kinded : Frame := if kind = .writeData then fields ||| 1#32 <<< 28 else fields
  if oddParity kinded = true then kinded ||| 1#32 <<< 31 else kinded

/-- PARITY (R110). -/
def execParity (f : Frame) (s : State) : Host.Outcome State Fault Refusal :=
  .next (s.pushResult (.bit (oddParity f)))

/-- BUILD_REQUEST (R111). -/
def execBuildRequest (kind : MessageKind) (id : BitVec 8) (payload : BitVec 16) (s : State) :
    Host.Outcome State Fault Refusal :=
  .next (s.pushResult (.frame (requestFrame kind id payload)))

/-- IS_VALID_RESPONSE (R112). -/
def execIsValidResponse (f : Frame) (s : State) : Host.Outcome State Fault Refusal :=
  .next (s.pushResult (.bit (validResponse f)))

/-- GET_KIND (R113). -/
def execGetKind (f : Frame) (s : State) : Host.Outcome State Fault Refusal :=
  .next (s.pushResult (.kind (kindOf f)))

/-- GET_DATA_ID (R114). -/
def execGetDataId (f : Frame) (s : State) : Host.Outcome State Fault Refusal :=
  .next (s.pushResult (.dataId (frameId f)))

/-- GET_U16 (R115). -/
def execGetU16 (f : Frame) (s : State) : Host.Outcome State Fault Refusal :=
  .next (s.pushResult (.unsigned (framePayload f)))

/-- GET_F88 (R116). -/
def execGetF88 (f : Frame) (s : State) : Host.Outcome State Fault Refusal :=
  .next (s.pushResult (.fixedPoint (fixedPointOf (framePayload f))))

/-- TEMP_TO_F88 (R117): refused NOT_A_NUMBER for an operand that is no rational. -/
def execTempToF88 (v : Value) (s : State) : Host.Outcome State Fault Refusal :=
  match temperatureOf v with
  | some p => .next (s.pushResult (.payload p))
  | none => .next (s.refuse .notANumber)

/-- IS_FAULT (R118). -/
def execIsFault (f : Frame) (s : State) : Host.Outcome State Fault Refusal :=
  .next (s.pushResult (.bit (flagBit f s.cfg.flagPos.fault)))

/-- IS_CH_ACTIVE (R119). -/
def execIsChActive (f : Frame) (s : State) : Host.Outcome State Fault Refusal :=
  .next (s.pushResult (.bit (flagBit f s.cfg.flagPos.chActive)))

/-- IS_DHW_ACTIVE (R120). -/
def execIsDhwActive (f : Frame) (s : State) : Host.Outcome State Fault Refusal :=
  .next (s.pushResult (.bit (flagBit f s.cfg.flagPos.dhwActive)))

/-- IS_FLAME_ON (R121). -/
def execIsFlameOn (f : Frame) (s : State) : Host.Outcome State Fault Refusal :=
  .next (s.pushResult (.bit (flagBit f s.cfg.flagPos.flameOn)))

/-- IS_COOLING_ACTIVE (R122). -/
def execIsCoolingActive (f : Frame) (s : State) : Host.Outcome State Fault Refusal :=
  .next (s.pushResult (.bit (flagBit f s.cfg.flagPos.coolingActive)))

/-- IS_DIAGNOSTIC (R123). -/
def execIsDiagnostic (f : Frame) (s : State) : Host.Outcome State Fault Refusal :=
  .next (s.pushResult (.bit (flagBit f s.cfg.flagPos.diagnostic)))

end Sys2Proof.Machine
end

