-- ==== Sys2Proof/Machine/Decoder.lean ====
section
/-!
DEFINITION. The edge-triggered frame decoder (spec/42_decoder.md R150 to R161).
-/

namespace Sys2Proof.Machine

/-- An edge in AWAITING_START (R152). -/
def State.firstEdge (s : State) (l : Level) : State :=
  match l with
  | .active => { s with ts := s.now, state := .startReceived }
  | .idle   => { s with ts := s.now, state := .frameInvalid }

/-- An edge in START_RECEIVED (R153). -/
def State.startBitEdge (s : State) (l : Level) : State :=
  if s.elapsed s.ts < tSample ∧ l = .idle then { s with state := .receiving, bitcount := 0, ts := s.now }
  else { s with state := .frameInvalid, ts := s.now }

/-- A sampled data bit: the complement of the level is shifted in (R155). -/
def State.dataEdge (s : State) (l : Level) : State :=
  { s with
    response := s.response <<< 1 ||| (~~~ l.bit).setWidth 32
    bitcount := s.bitcount + 1
    ts       := s.now }

/-- The stop bit (R156). -/
def State.stopEdge (s : State) (l : Level) : State :=
  if s.cfg.stopBitCheck = true ∧ l ≠ .idle then { s with state := .frameInvalid, ts := s.now }
  else { s with state := .frameReady, ts := s.now }

/-- An edge in RECEIVING: within the threshold nothing (R154), then the data bits (R155), then the stop bit (R156). -/
def State.receivingEdge (s : State) (l : Level) : State :=
  if s.elapsed s.ts ≤ tSample then s
  else if s.bitcount < 32#6 then s.dataEdge l
  else s.stopEdge l

/-- The edge event (R150): discarded while edge delivery is disabled (spec/20_memory.md R70), and no change outside the
three receiving-capable states (R151). -/
def State.takeEdge (s : State) (l : Level) : State :=
  if s.edgeEn = false then s
  else
    match s.state with
    | .awaitingStart => s.firstEdge l
    | .startReceived => s.startBitEdge l
    | .receiving     => s.receivingEdge l
    | .uninitialized => s
    | .ready         => s
    | .sending       => s
    | .frameReady    => s
    | .frameInvalid  => s
    | .quietPeriod   => s

/-- EDGE (R150). -/
def execEdge (l : Level) (s : State) : Host.Outcome State Fault Refusal := .next (s.takeEdge l)

end Sys2Proof.Machine
end

