-- ==== Sys2Proof/Machine/Line.lean ====
section
/-!
DEFINITION. The line code: half-bits, the line frame and its nominal edges (spec/30_encoding.md R86 to R89;
spec/41_transmitter.md R141).
-/

namespace Sys2Proof.Machine

/-- W[j] of R87: the start bit, the data bits most significant first, the stop bit. -/
def lineBit (f : Frame) (j : Nat) : Bool :=
  if j = 0 ∨ j = 33 then true else f.getLsbD (32 - j)

/-- `H(f, k)`, the level of half-bit k (R86, R141). -/
def halfBit (f : Frame) (k : Nat) : Level :=
  if k % 2 = 0 then (if lineBit f (k / 2) = true then .active else .idle)
  else (if lineBit f (k / 2) = true then .idle else .active)

/-- The level before half-bit k; the line is IDLE before H[0] (R87). -/
def levelBefore (f : Frame) : Nat → Level
  | 0 => .idle
  | k + 1 => halfBit f k

/-- The word of an EDGE event (R91). -/
def edgeWord (l : Level) : CommandWord := frameCommand 0b11001#5 (l.bit.setWidth 32)

/-- The edges among the half-bits `k, k + 1, …, k + n - 1` of a nominal line frame whose first edge is at `t0`
(R89): a transition at the start of a half-bit exactly when its level differs from the one before. -/
def edgesFrom (f : Frame) (t0 : Nat) : Nat → Nat → List Event
  | _, 0 => []
  | k, n + 1 =>
    if halfBit f k = levelBefore f k then edgesFrom f t0 (k + 1) n
    else { time := t0 + k * tHalf, input := .edge (edgeWord (halfBit f k)) } :: edgesFrom f t0 (k + 1) n

/-- All the edges of the nominal line frame of `f`, the first at `t0` (R89; `EDGES` of R96). -/
def nominalEdges (f : Frame) (t0 : Nat) : List Event := edgesFrom f t0 0 68

end Sys2Proof.Machine
end

