-- ==== Sys2Proof/Machine/LineFrame.lean ====
section
/-!
DEFINITION. A frame on the receive line (the frame rows of the opcode table; spec/30_encoding.md R80 to R83, R87, R89,
R96). DEDUCED (log entry 15): the frame is "on the line, not a command", so what it does is what the spec's own
abbreviation `EDGES <frame> @t0` says: its nominal edges are delivered, each as an EDGE step of its own, and no register
changes before the first of them. A frame of any kind may come; what the block makes of it is the decoder's and TICK's.
-/

namespace Sys2Proof.Machine

/-- The nominal edges of a frame are among the events to come, the first at this step's clock value (R89). -/
def State.receiveFrame (s : State) (f : Frame) : State := s.schedule (nominalEdges f s.now)

/-- A READ_DATA frame on the line (R82). -/
def execFrameReadData (p : BitVec 1) (spare : BitVec 4) (id : BitVec 8) (payload : BitVec 16) (s : State) :
    Host.Outcome State Fault Refusal :=
  .next (s.receiveFrame (frameOf p (MessageKind.code .readData) spare id payload))

/-- A WRITE_DATA frame on the line (R82). -/
def execFrameWriteData (p : BitVec 1) (spare : BitVec 4) (id : BitVec 8) (payload : BitVec 16) (s : State) :
    Host.Outcome State Fault Refusal :=
  .next (s.receiveFrame (frameOf p (MessageKind.code .writeData) spare id payload))

/-- A INVALID_DATA frame on the line (R82). -/
def execFrameInvalidData (p : BitVec 1) (spare : BitVec 4) (id : BitVec 8) (payload : BitVec 16) (s : State) :
    Host.Outcome State Fault Refusal :=
  .next (s.receiveFrame (frameOf p (MessageKind.code .invalidData) spare id payload))

/-- A RESERVED frame on the line (R82). -/
def execFrameReserved (p : BitVec 1) (spare : BitVec 4) (id : BitVec 8) (payload : BitVec 16) (s : State) :
    Host.Outcome State Fault Refusal :=
  .next (s.receiveFrame (frameOf p (MessageKind.code .reserved) spare id payload))

/-- A READ_ACK frame on the line (R82). -/
def execFrameReadAck (p : BitVec 1) (spare : BitVec 4) (id : BitVec 8) (payload : BitVec 16) (s : State) :
    Host.Outcome State Fault Refusal :=
  .next (s.receiveFrame (frameOf p (MessageKind.code .readAck) spare id payload))

/-- A WRITE_ACK frame on the line (R82). -/
def execFrameWriteAck (p : BitVec 1) (spare : BitVec 4) (id : BitVec 8) (payload : BitVec 16) (s : State) :
    Host.Outcome State Fault Refusal :=
  .next (s.receiveFrame (frameOf p (MessageKind.code .writeAck) spare id payload))

/-- A DATA_INVALID frame on the line (R82). -/
def execFrameDataInvalid (p : BitVec 1) (spare : BitVec 4) (id : BitVec 8) (payload : BitVec 16) (s : State) :
    Host.Outcome State Fault Refusal :=
  .next (s.receiveFrame (frameOf p (MessageKind.code .dataInvalid) spare id payload))

/-- A UNKNOWN_DATA_ID frame on the line (R82). -/
def execFrameUnknownDataId (p : BitVec 1) (spare : BitVec 4) (id : BitVec 8) (payload : BitVec 16) (s : State) :
    Host.Outcome State Fault Refusal :=
  .next (s.receiveFrame (frameOf p (MessageKind.code .unknownDataId) spare id payload))

end Sys2Proof.Machine
end

