-- ==== Sys2Proof/Machine/Reserved.lean ====
section
/-!
DEFINITION. The reserved codes of the command port (spec/30_encoding.md R92): refused, NOT_AN_OPERATION. What a refusal
does is spec/60_exceptions.md R223: the mark is recorded and nothing else changes.
-/

namespace Sys2Proof.Machine

/-- Code 01110 (R92). -/
def execReserved01110 (s : State) : Host.Outcome State Fault Refusal := .next (s.refuse .notAnOperation)

/-- Code 01111 (R92). -/
def execReserved01111 (s : State) : Host.Outcome State Fault Refusal := .next (s.refuse .notAnOperation)

/-- Code 10110 (R92). -/
def execReserved10110 (s : State) : Host.Outcome State Fault Refusal := .next (s.refuse .notAnOperation)

/-- Code 10111 (R92). -/
def execReserved10111 (s : State) : Host.Outcome State Fault Refusal := .next (s.refuse .notAnOperation)

/-- Every code 11xxx on the command port, TRANSMIT's and EDGE's among them (R92). -/
def execReserved11xxx (_low : BitVec 3) (s : State) : Host.Outcome State Fault Refusal :=
  .next (s.refuse .notAnOperation)

end Sys2Proof.Machine
end

