-- ==== Sys2Proof/Machine/Session.lean ====
section
/-!
DEFINITION. The session state machine and the engine lifecycle (spec/43_session.md R180 to R197).
-/

namespace Sys2Proof.Machine

/-! ### Engine lifecycle -/

/-- START's first step, once it is not refused (R180): edges on, line IDLE, and the wake hold begins. -/
def State.beginStart (s : State) : State := { (s.drive .idle).hold tWake with edgeEn := true, port := .wake }

/-- START's completion (R181). -/
def State.finishStart (s : State) : State := { s with state := .ready, port := .free }

/-- START (R180). -/
def execStart (s : State) : Host.Outcome State Fault Refusal :=
  .next (s.unlessShut (if s.state = .uninitialized then s.beginStart else s.refuse .alreadyStarted))

/-- STOP (R182). -/
def execStop (s : State) : Host.Outcome State Fault Refusal :=
  .next (s.unlessShut { s with edgeEn := false, shut := true })

/-! ### Sending -/

/-- SEND (R183): outside READY it is rejected, result 0, and no register changes (spec/60_exceptions.md R222). -/
def execSend (f : Frame) (s : State) : Host.Outcome State Fault Refusal :=
  .next (s.unlessShut (if s.state = .ready then s.beginExchange f false else s.pushResult (.accepted false)))

/-- SEND_AND_WAIT (R185): outside READY it returns the zero frame at once. -/
def execSendAndWait (f : Frame) (s : State) : Host.Outcome State Fault Refusal :=
  .next (s.unlessShut (if s.state = .ready then s.beginExchange f true else s.pushResult (.frame 0)))

/-! ### Tick -/

/-- ELIGIBLE, the states of an open exchange (R186). -/
def SessionState.eligible : SessionState → Bool
  | .sending | .awaitingStart | .startReceived | .receiving | .frameReady | .frameInvalid => true
  | .uninitialized | .ready | .quietPeriod => false

/-- TICK's policy for the state `st` and elapsed time `e` it read, in the branch order of R186 (R187 to R191). -/
def State.tickPolicy (s : State) (st : SessionState) (e : Nat) : State :=
  if st = .ready ∨ st = .uninitialized then s
  else if st.eligible = true ∧ e > tTimeout then s.report .timeout .ready
  else if st = .frameInvalid then s.report .invalid .quietPeriod
  else if st = .frameReady then
    s.report (if validResponse s.response = true then .success else .invalid) .quietPeriod
  else if st = .quietPeriod ∧ e > tQuiet then { s with state := .ready }
  else s

/-- The first step of a split TICK (R192): the snapshot, and a hold of 0 before the second. -/
def State.snapshotTick (s : State) : State :=
  { s.hold 0 with tickSnap := some { state := s.state, elapsed := s.elapsed s.ts } }

/-- The second step of a split TICK (R192): the policy from the snapshot, not from the registers. -/
def State.finishTick (s : State) : State :=
  match s.tickSnap with
  | some snap => { s.tickPolicy snap.state snap.elapsed with tickSnap := none }
  | none => s

/-- TICK's first step, which is all of it unless `TICK_SPLIT_PHASE` (R186, R192). -/
def State.tickStep (s : State) : State :=
  s.unlessShut (if s.cfg.tickSplitPhase = true then s.snapshotTick else s.tickPolicy s.state (s.elapsed s.ts))

/-- TICK (R186). -/
def execTick (s : State) : Host.Outcome State Fault Refusal := .next s.tickStep

/-! ### SEND_AND_WAIT's loop -/

/-- After an internal tick: READY ends the loop with the response as it stands; else it holds for a delay of the host's
choice, at least 0 (R185). -/
def State.returnIfReady (s : State) : State :=
  if s.state = .ready then { s with port := .free }.pushResult (.frame s.response) else s.hold 0

/-- One move of the polling agent in WAIT (R185): the next step of an internal TICK, and the loop's test after its
last. -/
def State.waitStep (s : State) : State :=
  let ticked : State := match s.tickSnap with
    | some _ => s.finishTick
    | none => s.tickStep
  if ticked.tickSnap.isSome = true then ticked else ticked.returnIfReady

/-! ### Status -/

/-- READ_STATUS (R193). -/
def execReadStatus (s : State) : Host.Outcome State Fault Refusal :=
  .next (s.unlessShut (s.pushResult (.status s.state.code s.outcome.code s.response)))

end Sys2Proof.Machine
end

