-- ==== Sys2Proof/Machine/Transmitter.lean ====
section
/-!
DEFINITION. The bit-level transmitter (spec/41_transmitter.md R140 to R145) and SEND's completion (spec/43_session.md
R184), which follows it.
-/

namespace Sys2Proof.Machine

/-- One pass of the transmitter's loop (R140): drive the next half-bit, hold `T_HALF`. -/
def State.driveHalfBit (s : State) (f : Frame) : State :=
  { (s.drive (halfBit f s.txH.toNat)).hold tHalf with txH := s.txH + 1 }

/-- The step after the last hold: the line goes IDLE (R143) and the exchange's deadline anchor is taken (R184). A SEND
returns 1; a SEND_AND_WAIT goes on to wait, "without its return 1" (R185). -/
def State.finishTransmit (s : State) : State :=
  let anchored : State := { (s.drive .idle).hold 0 with state := .awaitingStart, ts := s.now }
  if s.waitAfterTx = true then { anchored with port := .wait }
  else { anchored with port := .free }.pushResult (.accepted true)

/-- TRANSMIT (R140): one step of the transmission of `f`, which `fetch` asks for on each of the polling agent's moves
while `port` is TX, with `f` the register `tx_frame` (log entries 7 and 19). No check of the frame (R145). -/
def execTransmit (f : Frame) (s : State) : Host.Outcome State Fault Refusal :=
  if s.txH < 68#7 then .next (s.driveHalfBit f) else .next s.finishTransmit

end Sys2Proof.Machine
end

