-- ==== Sys2Proof/Machine/Dispatch.lean ====
section
/-!
DEFINITION. The meaning of every instruction, one arm per constructor.
-/

namespace Sys2Proof.Machine

/-- The instruction's own step, in the order of the opcode table. -/
def exec (i : Instr) (s : State) : Host.Outcome State Fault Refusal :=
  match i with
  | .parity f => Sys2Proof.Machine.execParity f s
  | .buildRequest k id v => Sys2Proof.Machine.execBuildRequest k id v s
  | .isValidResponse f => Sys2Proof.Machine.execIsValidResponse f s
  | .getKind f => Sys2Proof.Machine.execGetKind f s
  | .getDataId f => Sys2Proof.Machine.execGetDataId f s
  | .getU16 f => Sys2Proof.Machine.execGetU16 f s
  | .getF88 f => Sys2Proof.Machine.execGetF88 f s
  | .tempToF88 x => Sys2Proof.Machine.execTempToF88 x s
  | .isFault f => Sys2Proof.Machine.execIsFault f s
  | .isChActive f => Sys2Proof.Machine.execIsChActive f s
  | .isDhwActive f => Sys2Proof.Machine.execIsDhwActive f s
  | .isFlameOn f => Sys2Proof.Machine.execIsFlameOn f s
  | .isCoolingActive f => Sys2Proof.Machine.execIsCoolingActive f s
  | .isDiagnostic f => Sys2Proof.Machine.execIsDiagnostic f s
  | .start => Sys2Proof.Machine.execStart s
  | .stop => Sys2Proof.Machine.execStop s
  | .send f => Sys2Proof.Machine.execSend f s
  | .sendAndWait f => Sys2Proof.Machine.execSendAndWait f s
  | .tick => Sys2Proof.Machine.execTick s
  | .readStatus => Sys2Proof.Machine.execReadStatus s
  | .transmit f => Sys2Proof.Machine.execTransmit f s
  | .edge l => Sys2Proof.Machine.execEdge l s
  | .reserved01110 => Sys2Proof.Machine.execReserved01110 s
  | .reserved01111 => Sys2Proof.Machine.execReserved01111 s
  | .reserved10110 => Sys2Proof.Machine.execReserved10110 s
  | .reserved10111 => Sys2Proof.Machine.execReserved10111 s
  | .reserved11xxx low => Sys2Proof.Machine.execReserved11xxx low s
  | .frameReadData p sp id v => Sys2Proof.Machine.execFrameReadData p sp id v s
  | .frameWriteData p sp id v => Sys2Proof.Machine.execFrameWriteData p sp id v s
  | .frameInvalidData p sp id v => Sys2Proof.Machine.execFrameInvalidData p sp id v s
  | .frameReserved p sp id v => Sys2Proof.Machine.execFrameReserved p sp id v s
  | .frameReadAck p sp id v => Sys2Proof.Machine.execFrameReadAck p sp id v s
  | .frameWriteAck p sp id v => Sys2Proof.Machine.execFrameWriteAck p sp id v s
  | .frameDataInvalid p sp id v => Sys2Proof.Machine.execFrameDataInvalid p sp id v s
  | .frameUnknownDataId p sp id v => Sys2Proof.Machine.execFrameUnknownDataId p sp id v s

end Sys2Proof.Machine
end

