-- ==== Sys2Proof/Machine/Fetch.lean ====
section
/-!
DEFINITION. What the next step is (spec/20_memory.md R66 to R70; spec/60_exceptions.md R223, R236): the first event of
`inputs`, as an instruction to run or as a move that is no instruction.
-/

namespace Sys2Proof.Machine

/-- What the next event asks for. -/
inductive Fetched where
  /-- run an instruction in a state: the event is taken off and the clock sampled -/
  | run (i : Instr) (s : State)
  /-- the step is complete: the continuation of a long command, a reset, a refused step, or no event at all -/
  | moved (s : State)
  /-- a run with no move -/
  | stuck (f : Fault)
  deriving Repr

/-- Is the instruction a code that is no operation? Its refusal comes before CLOCK_PREMISE (R223, D46). -/
def noOperation : Instr → Bool
  | .reserved01110 | .reserved01111 | .reserved10110 | .reserved10111 | .reserved11xxx _ => true
  | .parity _ | .buildRequest _ _ _ | .isValidResponse _ | .getKind _ | .getDataId _ | .getU16 _ | .getF88 _
  | .tempToF88 _ | .isFault _ | .isChActive _ | .isDhwActive _ | .isFlameOn _ | .isCoolingActive _ | .isDiagnostic _
  | .start | .stop | .send _ | .sendAndWait _ | .tick | .readStatus | .transmit _ | .edge _
  | .frameReadData _ _ _ _ | .frameWriteData _ _ _ _ | .frameInvalidData _ _ _ _ | .frameReserved _ _ _ _
  | .frameReadAck _ _ _ _ | .frameWriteAck _ _ _ _ | .frameDataInvalid _ _ _ _
  | .frameUnknownDataId _ _ _ _ => false

/-- The clock sampled, unless it has gone backward, when the larger earlier value stays (log entry 2). -/
def State.sampleForward (s : State) (n : Nat) : State := if n < s.now then s else s.sample n

/-- Run an instruction at clock value `n`. A step that sees the clock go backward is refused, CLOCK_PREMISE (R74,
R223). -/
def runAt (i : Instr) (n : Nat) (s : State) : Fetched :=
  if n < s.now ∧ noOperation i = false then .moved (s.refuse .clockPremise)
  else .run i (s.sampleForward n)

/-- A move of the polling agent at clock value `n`. Before its hold is over it goes on waiting (log entry 6). After it,
TX goes on with the transmission (R140), WAKE ends START (R181), WAIT goes on with its loop (R185), and with a free port
a split TICK takes its second step (R192), or there is nothing to do. -/
def resumeAt (n : Nat) (s : State) : Fetched :=
  if n < s.now then .moved (s.refuse .clockPremise)
  else if n < s.holdUntil then .moved (s.sample n)
  else
    match s.port with
    | .tx   => .run (.transmit s.txFrame) (s.sample n)
    | .wake => .moved (s.sample n).finishStart
    | .wait => .moved (s.sample n).waitStep
    | .free => .moved (s.sample n).finishTick

/-- What an event asks for in a state it has been taken off. A command comes only while the polling agent is not occupied
(R31, R236); an edge may come between any two steps (R67). -/
def fetchEvent (e : Event) (s : State) : Fetched :=
  match e.input with
  | .command w value =>
    if s.busy = true then .stuck .commandWhileBusy else runAt (decodeCommand w value) (s.clockInput e.time) s
  | .edge w =>
    match decode (.edge w) with
    | .ok i => runAt i (s.clockInput e.time) s
    | .error _ => .stuck .notAnEdgeWord
  | .resume  => resumeAt (s.clockInput e.time) s
  | .frame f => runAt (decodeFrame f) (s.clockInput e.time) s
  | .reset   => .moved s.hostReset

/-- What the next step is. With no event to come nothing happens (log entry 1). -/
def fetch (s : State) : Fetched :=
  match s.inputs with
  | [] => .moved s
  | e :: rest => fetchEvent e { s with inputs := rest }

/-- Place a packet so that the next step runs it (log entry 16): its event is the next, at the clock value of the latest
step. For the command port the polling agent must not be occupied; for the transmitter `port` must be TX, with `tx_frame`
loaded, and no hold may be running. -/
def State.place (s : State) (p : Packet) : State :=
  let t := s.sample (s.clockInput s.now)
  match p with
  | .command w value =>
    { t with port := .free, tickSnap := none, inputs := { time := t.now, input := .command w value } :: s.inputs }
  | .internal w =>
    { t with port := .tx, txFrame := frameField w, holdUntil := t.now,
             inputs := { time := t.now, input := .resume } :: s.inputs }
  | .edge w => { t with inputs := { time := t.now, input := .edge w } :: s.inputs }
  | .line f => { t with inputs := { time := t.now, input := .frame f } :: s.inputs }

end Sys2Proof.Machine
end

