-- ==== Sys2Proof/Machine/Step.lean ====
section
/-!
DEFINITION. One step of the block: the next event, and the instruction it asks for.
-/

namespace Sys2Proof.Machine

/-- One step (spec/20_memory.md R67). -/
def step (s : State) : Host.Outcome State Fault Refusal :=
  match fetch s with
  | .run i t => exec i t
  | .moved t => .next t
  | .stuck f => .fault f

/-- The state whose next step runs the opcode-table row with these bits (log entry 16). -/
def State.withFetchWord (s : State) (nbits w : Nat) : State :=
  match tablePacket nbits w with
  | some p => s.place p
  | none => s

end Sys2Proof.Machine
end

