-- ==== Sys2Proof/Machine/Lines.lean ====
section
/-!
DEFINITION. Several lines (spec/60_exceptions.md R232): independent copies of the block, each with its own registers,
inputs and outputs, and no event between them.
-/

namespace Sys2Proof.Machine

/-- A step of copy `k` of several; there is no step of a copy that does not exist. -/
def stepLine (lines : List State) (k : Nat) : Option (Host.Outcome (List State) Fault Refusal) :=
  match lines[k]? with
  | none => none
  | some s =>
    match step s with
    | .next t => some (.next (lines.set k t))
    | .fault f => some (.fault f)
    | .refused r => some (.refused r)

end Sys2Proof.Machine
end

