-- ==== Sys2Proof/Machine/Run.lean ====
section
/-!
DEFINITION. Runs and their ends (spec/70_reset_and_hazards.md R253).
-/

namespace Sys2Proof.Machine

/-- The end state of a run (R253): the registers of spec/10_state.md R20, what has been emitted, and the refusal mark. -/
structure EndState where
  state     : SessionState
  response  : Frame
  outcome   : ExchangeOutcome
  ts        : Nat
  bitcount  : BitVec 6
  edgeEn    : Bool
  shut      : Bool
  txLine    : TxLine
  txFrame   : Frame
  txH       : BitVec 7
  port      : Port
  doneLog   : List DoneEvent
  resultLog : List CommandResult
  mark      : Option RefusalReason
  deriving DecidableEq, Repr

/-- What R253 takes of a state. -/
def State.endState (s : State) : EndState where
  state     := s.state
  response  := s.response
  outcome   := s.outcome
  ts        := s.ts
  bitcount  := s.bitcount
  edgeEn    := s.edgeEn
  shut      := s.shut
  txLine    := s.txLine
  txFrame   := s.txFrame
  txH       := s.txH
  port      := s.port
  doneLog   := s.doneLog
  resultLog := s.resultLog
  mark      := s.mark

/-- Does a program list the input: a command, an edge, or a frame's edges (R253)? A move of the polling agent belongs to the
command it continues, and a reset is the host's (log entry 27). -/
def Input.listed : Input → Bool
  | .command _ _ | .edge _ | .frame _ => true
  | .resume | .reset => false

/-- The run of a program has ended (R253): every command has been issued, the last has returned, and every listed edge has
been delivered. A state with no event to come and the polling agent still occupied is no end: its command never returns
(spec/93_implementation_defined.md U8). -/
def State.runEnded (s : State) : Bool := !s.busy && s.inputs.all fun e => !e.input.listed

/-- The end state of the run from a state, at the first point that is an end; none where there is no such point within `n`
steps, and the stop where a step has no move. -/
def runToEnd : Nat → State → Option (Host.Outcome EndState Fault Refusal)
  | 0, s => if s.runEnded = true then some (.next s.endState) else none
  | n + 1, s =>
    if s.runEnded = true then some (.next s.endState)
    else
      match step s with
      | .next t => runToEnd n t
      | .fault f => some (.fault f)
      | .refused r => some (.refused r)

end Sys2Proof.Machine
end

