-- ==== Sys2Proof/Safety.lean ====
section
/-!
DEFINITION. What counts as a good state: the invariants of spec/10_state.md R42 and R43 with what makes them inductive,
and the runs that a claim may rely on (spec/60_exceptions.md R223).
-/

namespace Sys2Proof.Machine

/-- No refusal so far. R223: "no claim may rely on what follows a refusal", so a claim about a run takes this as a premise
of the states it speaks of. -/
abbrev State.Reliable (s : State) : Prop := s.mark = none

/-- The port and the session state go together: TX exactly while SENDING (R22, R31), WAKE only before READY (R180), and WAIT
only from the end of the transmission to the return to READY (R185). -/
abbrev State.PortMatches (s : State) : Prop :=
  (s.port = .tx ↔ s.state = .sending) ∧
  (s.port = .wake → s.state = .uninitialized) ∧
  (s.port = .wait → s.state ≠ .uninitialized ∧ s.state ≠ .ready)

/-- Edge delivery is on from START to STOP (R27, R28): off after STOP, on during the wake hold, and off before STOP only while
nothing has started. -/
abbrev State.EnableMatches (s : State) : Prop :=
  (s.shut = true → s.edgeEn = false) ∧
  (s.port = .wake → s.edgeEn = true) ∧
  (s.edgeEn = false → s.shut = true ∨ s.state = .uninitialized)

/-- The line is driven once START has run, and ACTIVE only during a transmission (R29, R143). -/
abbrev State.LineMatches (s : State) : Prop :=
  (s.txLine = .undriven → s.state = .uninitialized ∧ s.edgeEn = false) ∧
  (s.txLine = .active → s.port = .tx)

/-- An exchange not yet reported has outcome NONE (R43). -/
abbrev State.OutcomeOpen (s : State) : Prop := s.state.eligible = true → s.outcome = .none

/-- Between the two steps of a split TICK the polling agent takes no other step, so only edges come between, and they neither
open nor end an exchange (R192, R195): an open exchange in the snapshot is still open, and any other state is unchanged. -/
abbrev State.SnapMatches (s : State) : Prop :=
  ∀ snap ∈ s.tickSnap, (s.port = .free ∨ s.port = .wait) ∧ snap.state.eligible = s.state.eligible ∧
    (snap.state.eligible = false → s.state = snap.state)

/-- The invariant of the control registers. -/
abbrev State.ControlInv (s : State) : Prop :=
  s.PortMatches ∧ s.EnableMatches ∧ s.LineMatches ∧ s.OutcomeOpen ∧ s.SnapMatches

/-- The invariant of the receiver's and the transmitter's registers (R26, R30, R42, R160): the counters keep their ranges, the
accumulator is clear until the first data bit, and in RECEIVING it holds no more bits than were counted. -/
abbrev State.ReceiveInv (s : State) : Prop :=
  s.bitcount.toNat ≤ 32 ∧ s.txH.toNat ≤ 68 ∧
  (s.state = .sending ∨ s.state = .awaitingStart ∨ s.state = .startReceived → s.response = 0) ∧
  (s.state = .receiving → s.response.toNat < 2 ^ s.bitcount.toNat) ∧
  (s.state = .frameInvalid → s.cfg.stopBitCheck = false → s.response = 0)

/-- The invariant of the clock (R25, R74): what is sampled and recorded fits `CLOCK_WIDTH`, and `ts` holds an earlier `now`. -/
abbrev State.ClockInv (s : State) : Prop :=
  s.now < 2 ^ s.cfg.clockWidth ∧ s.ts ≤ s.now

/-- The whole invariant. -/
abbrev State.Inv (s : State) : Prop := s.ControlInv ∧ s.ReceiveInv ∧ s.ClockInv

end Sys2Proof.Machine
end

