-- ==== Sys2Proof/Certificates/Slice0/Obligations.lean ====
section
/-!
DEFINITION. The statements for the provers. Each docstring names the rule of spec/ it formalises. Where a statement has an
equation `exec i s = .next { s with … }`, it is at once the instruction's result, its completion and its frame: every
field that is not named is unchanged.
-/

open Sys2Proof Sys2Proof.Machine

namespace Sys2Proof.Stated

/-- The number of 1 bits of a frame, counted over the 32 positions. -/
def ones (f : Frame) : Nat := (Finset.univ.filter fun k : Fin 32 => f.getLsbD k = true).card

/-- The bits that an operation of the command port uses, by its code (spec/30_encoding.md R90, R91). -/
def usedBits (op : BitVec 5) : CommandWord :=
  if op = 0b00001#5 then 0x07FFFFFF00000000#64
  else if op ∈ [0b00000#5, 0b00010#5, 0b00011#5, 0b00100#5, 0b00101#5, 0b00110#5, 0b01000#5, 0b01001#5, 0b01010#5,
      0b01011#5, 0b01100#5, 0b01101#5, 0b10010#5, 0b10011#5] then 0x00000000FFFFFFFF#64
  else 0

/-- The codec instructions (spec/40_codec.md). -/
def isCodec : Instr → Bool
  | .parity _ | .buildRequest _ _ _ | .isValidResponse _ | .getKind _ | .getDataId _ | .getU16 _ | .getF88 _
  | .tempToF88 _ | .isFault _ | .isChActive _ | .isDhwActive _ | .isFlameOn _ | .isCoolingActive _ | .isDiagnostic _ => true
  | .start | .stop | .send _ | .sendAndWait _ | .tick | .readStatus | .transmit _ | .edge _
  | .reserved01110 | .reserved01111 | .reserved10110 | .reserved10111 | .reserved11xxx _
  | .frameReadData _ _ _ _ | .frameWriteData _ _ _ _ | .frameInvalidData _ _ _ _ | .frameReserved _ _ _ _
  | .frameReadAck _ _ _ _ | .frameWriteAck _ _ _ _ | .frameDataInvalid _ _ _ _
  | .frameUnknownDataId _ _ _ _ => false

/-- How many more times the decoder can write `ts` in an exchange (spec/42_decoder.md R161). -/
def edgeBudget (s : State) : Nat :=
  match s.state with
  | .awaitingStart => 35
  | .startReceived => 34
  | .receiving     => 33 - s.bitcount.toNat
  | _              => 0

/-- The moves of the polling agent through a whole transmission that begins at `t0`, with no hold overrun. -/
def transmitMoves (t0 : Nat) : List Event := (List.range 69).map fun k => { time := t0 + 500 * k, input := .resume }

/-- The input makes a TICK's step: a TICK command, or a move of the polling agent in SEND_AND_WAIT's loop (R185). -/
def isTick (s : State) (i : Input) : Prop :=
  (∃ w v, i = .command w v ∧ opField w = 0b10100#5) ∨ (i = .resume ∧ s.port = .wait)

/-- The rows of the transition table that change `state` (spec/43_session.md R196), for an input `i` and an elapsed time `e`, with
the completion event that the row gives. -/
def tableRow (s t : State) (i : Input) (e : Nat) : Prop :=
  (s.state = .uninitialized ∧ t.state = .ready ∧ i = .resume ∧ s.port = .wake ∧ t.doneLog = s.doneLog) ∨
  (s.state = .ready ∧ t.state = .sending ∧ t.doneLog = s.doneLog ∧
    ∃ w v, i = .command w v ∧ (opField w = 0b10010#5 ∨ opField w = 0b10011#5)) ∨
  (s.state = .sending ∧ t.state = .awaitingStart ∧ i = .resume ∧ s.txH.toNat ≥ 68 ∧ t.doneLog = s.doneLog) ∨
  (∃ w, i = .edge w ∧ t.doneLog = s.doneLog ∧ t.ts = t.now ∧
    ((s.state = .awaitingStart ∧ t.state = .startReceived ∧ w.getLsbD 0 = true) ∨
     (s.state = .awaitingStart ∧ t.state = .frameInvalid ∧ w.getLsbD 0 = false) ∨
     (s.state = .startReceived ∧ t.state = .receiving ∧ e < 750 ∧ w.getLsbD 0 = false ∧ t.bitcount = 0) ∨
     (s.state = .startReceived ∧ t.state = .frameInvalid ∧ ¬ (e < 750 ∧ w.getLsbD 0 = false)) ∨
     (s.state = .receiving ∧ t.state = .frameReady ∧ 750 < e ∧ 32 ≤ s.bitcount.toNat))) ∨
  (isTick s i ∧
    ((s.state.eligible = true ∧ t.state = .ready ∧ 800000 < e ∧
        t.doneLog = s.doneLog ++ [{ frame := s.response, outcome := .timeout, time := t.now }]) ∨
     (s.state = .frameInvalid ∧ t.state = .quietPeriod ∧ e ≤ 800000 ∧
        t.doneLog = s.doneLog ++ [{ frame := s.response, outcome := .invalid, time := t.now }]) ∨
     (s.state = .frameReady ∧ t.state = .quietPeriod ∧ e ≤ 800000 ∧
        t.doneLog = s.doneLog ++ [{ frame := s.response, time := t.now,
                                    outcome := if validResponse s.response = true then .success else .invalid }]) ∨
     (s.state = .quietPeriod ∧ t.state = .ready ∧ 100000 < e ∧ t.doneLog = s.doneLog)))

end Sys2Proof.Stated

open Sys2Proof.Stated

/-! ### Encoding -/

/-- R81, R90 to R92: no bit of an encoding is dropped. -/
def Obligations.DecodeOfEncode : Prop :=
  ∀ i : Instr, i.wf = true → decode (encode i) = .ok i

/-- R90: a field that an operation does not use never changes what is decoded, and never causes a refusal:
on the command port, on the edge-event input, and in the transmitter's internal request. -/
def Obligations.UnusedFieldsIgnored : Prop :=
  (∀ (w w' : CommandWord) (v v' : Value), opField w = opField w' → w &&& usedBits (opField w) = w' &&& usedBits (opField w) →
    (opField w = 0b00111#5 → v = v') → decode (.command w v) = decode (.command w' v')) ∧
  (∀ w w' : CommandWord, opField w = opField w' → w.getLsbD 0 = w'.getLsbD 0 → decode (.edge w) = decode (.edge w')) ∧
  (∀ w w' : CommandWord, opField w = opField w' → w &&& 0x00000000FFFFFFFF#64 = w' &&& 0x00000000FFFFFFFF#64 →
    decode (.internal w) = decode (.internal w'))

/-- R92 with R223: on the command port the codes 01110, 01111, 10110, 10111 and 11xxx are refused, NOT_AN_OPERATION, and no
other code is. -/
def Obligations.ReservedCodesRefused : Prop :=
  ∀ (w : CommandWord) (v : Value), ∃ i, decode (.command w v) = .ok i ∧
    ((opField w).toNat ∈ [14, 15, 22, 23] ∨ 24 ≤ (opField w).toNat →
      ∀ s : State, s.mark = none → exec i s = .next { s with mark := some .notAnOperation }) ∧
    (¬ ((opField w).toNat ∈ [14, 15, 22, 23] ∨ 24 ≤ (opField w).toNat) → noOperation i = false)

/-- R92, R223: the five reserved rows record their refusal and do nothing else. -/
def Obligations.ReservedRowsOnlyMark : Prop :=
  ∀ (s : State) (low : BitVec 3), s.mark = none →
    exec .reserved01110 s = .next { s with mark := some .notAnOperation } ∧
    exec .reserved01111 s = .next { s with mark := some .notAnOperation } ∧
    exec .reserved10110 s = .next { s with mark := some .notAnOperation } ∧
    exec .reserved10111 s = .next { s with mark := some .notAnOperation } ∧
    exec (.reserved11xxx low) s = .next { s with mark := some .notAnOperation }

/-- R90, R91, R80: words written out from the spec decode to what they stand for. -/
def Obligations.SpecWordsDecode : Prop :=
  decode (.command 0x0819000000000000#64 (.ratio 0 1)) = .ok (.buildRequest .readData 25#8 0#16) ∧
  decode (.command 0x9000000080190000#64 (.ratio 0 1)) = .ok (.send 0x80190000#32) ∧
  decode (.command 0xC800000000000001#64 (.ratio 0 1)) = .ok (.reserved11xxx 1#3) ∧
  decode (.edge 0xC800000000000001#64) = .ok (.edge .active) ∧
  decode (.internal 0xC000000080190000#64) = .ok (.transmit 0x80190000#32) ∧
  decode (.line 0x40192A80#32) = .ok (.frameReadAck 0#1 0#4 25#8 0x2A80#16)

/-! ### One step -/

/-- R31, R67: a command issued while the polling agent is free runs at the clock value sampled in its step. -/
def Obligations.StepRunsCommand : Prop :=
  ∀ (s : State) (rest : List Event) (time : Nat) (w : CommandWord) (v : Value) (i : Instr),
    s.inputs = { time := time, input := .command w v } :: rest → s.port = .free → s.tickSnap = none →
    decode (.command w v) = .ok i → s.now ≤ time → time < 2 ^ s.cfg.clockWidth →
    step s = exec i { s with inputs := rest, now := time }

/-- R67, R69: an edge event runs EDGE whatever the polling agent does. That a frame on the line is an event of its own, which runs
the frame's row, is the model's DEDUCED reading (log entry 15). -/
def Obligations.StepRunsEdgesAndFrames : Prop :=
  (∀ (s : State) (rest : List Event) (time : Nat) (w : CommandWord) (i : Instr),
    s.inputs = { time := time, input := .edge w } :: rest → decode (.edge w) = .ok i →
    s.now ≤ time → time < 2 ^ s.cfg.clockWidth →
    step s = exec i { s with inputs := rest, now := time }) ∧
  (∀ (s : State) (rest : List Event) (time : Nat) (f : Frame) (i : Instr),
    s.inputs = { time := time, input := .frame f } :: rest → decode (.line f) = .ok i →
    s.now ≤ time → time < 2 ^ s.cfg.clockWidth →
    step s = exec i { s with inputs := rest, now := time })

/-- R140, R67: while `port` is TX the polling agent's move, once its hold is over, runs TRANSMIT of `tx_frame`. -/
def Obligations.StepRunsTransmit : Prop :=
  ∀ (s : State) (rest : List Event) (time : Nat),
    s.inputs = { time := time, input := .resume } :: rest → s.port = .tx → s.now ≤ time → s.holdUntil ≤ time →
    time < 2 ^ s.cfg.clockWidth →
    step s = exec (.transmit s.txFrame) { s with inputs := rest, now := time }

/-- R67, R142: a hold is a lower bound. Before it is over no register changes by the polling agent. That a move
before its end may stand among the events at all, and then samples the clock and does nothing else, is the model's DEDUCED
reading (log entry 6). -/
def Obligations.HoldIsLowerBound : Prop :=
  ∀ (s : State) (rest : List Event) (time : Nat),
    s.inputs = { time := time, input := .resume } :: rest → s.now ≤ time → time < s.holdUntil →
    time < 2 ^ s.cfg.clockWidth →
    step s = .next { s with inputs := rest, now := time }

/-- R74, R223: every step that sees the clock go backward is refused, CLOCK_PREMISE, but for a code that is no operation,
whose refusal comes first. -/
def Obligations.ClockPremiseRefused : Prop :=
  ∀ (s : State) (rest : List Event) (e : Event), s.inputs = e :: rest → s.mark = none →
    e.time % 2 ^ s.cfg.clockWidth < s.now →
    (∀ w v, e.input = .command w v → s.busy = false →
      (∀ i, decode (.command w v) = .ok i → noOperation i = false) →
      step s = .next { s with inputs := rest, mark := some .clockPremise }) ∧
    (∀ w v, e.input = .command w v → s.busy = false →
      (∀ i, decode (.command w v) = .ok i → noOperation i = true) →
      step s = .next { s with inputs := rest, mark := some .notAnOperation }) ∧
    (∀ w, e.input = .edge w → opField w = 0b11001#5 →
      step s = .next { s with inputs := rest, mark := some .clockPremise }) ∧
    (∀ f, e.input = .frame f → step s = .next { s with inputs := rest, mark := some .clockPremise }) ∧
    (e.input = .resume → step s = .next { s with inputs := rest, mark := some .clockPremise })

/-- R236, R230: a command while the polling agent is occupied, and a word on the edge-event input that is not EDGE, have no
move. -/
def Obligations.NoMoveStops : Prop :=
  ∀ (s : State) (rest : List Event) (time : Nat) (w : CommandWord) (v : Value),
    (s.inputs = { time := time, input := .command w v } :: rest → (s.port ≠ .free ∨ s.tickSnap ≠ none) →
      step s = .fault .commandWhileBusy) ∧
    (s.inputs = { time := time, input := .edge w } :: rest → opField w ≠ 0b11001#5 → step s = .fault .notAnEdgeWord)

/-- R220: "The block raises no synchronous exception: no command and no event redirects control, saves state for a handler, or
aborts." Every instruction answers a next state in every state. -/
def Obligations.NothingAborts : Prop :=
  ∀ (i : Instr) (s : State), ∃ t, exec i s = .next t

/-! ### The codec -/

/-- R110: PARITY is 1 exactly when the count of 1 bits is odd. -/
def Obligations.ParityCountsOnes : Prop :=
  (∀ (w : CommandWord) (v : Value), opField w = 0b00000#5 → decode (.command w v) = .ok (.parity (w.extractLsb' 0 32))) ∧
  ∀ (f : Frame) (s : State),
    exec (.parity f) s = .next { s with resultLog := s.resultLog ++ [.bit (decide (ones f % 2 = 1))] }

/-- R111, R93: BUILD_REQUEST's frame bit by bit, and the truncation of wider operands. -/
def Obligations.BuildRequestFrame : Prop :=
  (∀ (w : CommandWord) (v : Value), opField w = 0b00001#5 → ∃ k : MessageKind,
    k.code = w.extractLsb' 56 3 ∧
    decode (.command w v) = .ok (.buildRequest k (w.extractLsb' 48 8) (w.extractLsb' 32 16))) ∧
  (∀ (k : MessageKind) (id : BitVec 8) (p : BitVec 16) (s : State), ∃ g : Frame,
    exec (.buildRequest k id p) s = .next { s with resultLog := s.resultLog ++ [.frame g] } ∧
    (∀ j, j < 16 → g.getLsbD j = p.getLsbD j) ∧
    (∀ j, j < 8 → g.getLsbD (16 + j) = id.getLsbD j) ∧
    (∀ j, 24 ≤ j → j < 28 → g.getLsbD j = false) ∧
    g.getLsbD 28 = decide (k = .writeData) ∧ g.getLsbD 29 = false ∧ g.getLsbD 30 = false ∧
    ones g % 2 = 0) ∧
  (∀ k id p : Nat, buildRequestOf k id p = buildRequestOf (k % 2 ^ 3) (id % 2 ^ 8) (p % 2 ^ 16))

/-- R112: IS_VALID_RESPONSE is 1 exactly for an even count with kind 100 or 101. -/
def Obligations.ValidResponseTest : Prop :=
  (∀ (w : CommandWord) (v : Value), opField w = 0b00010#5 →
    decode (.command w v) = .ok (.isValidResponse (w.extractLsb' 0 32))) ∧
  ∀ (f : Frame) (s : State),
    exec (.isValidResponse f) s = .next { s with resultLog := s.resultLog ++
      [.bit (decide (ones f % 2 = 0 ∧ (f.toNat / 2 ^ 28 % 8 = 4 ∨ f.toNat / 2 ^ 28 % 8 = 5)))] }

/-- R113, R114, R115: the three unsigned extractions, as numbers. -/
def Obligations.FieldExtractions : Prop :=
  (∀ (w : CommandWord) (v : Value),
    (opField w = 0b00011#5 → decode (.command w v) = .ok (.getKind (w.extractLsb' 0 32))) ∧
    (opField w = 0b00100#5 → decode (.command w v) = .ok (.getDataId (w.extractLsb' 0 32))) ∧
    (opField w = 0b00101#5 → decode (.command w v) = .ok (.getU16 (w.extractLsb' 0 32)))) ∧
  ∀ (f : Frame) (s : State),
    (∃ k : MessageKind, exec (.getKind f) s = .next { s with resultLog := s.resultLog ++ [.kind k] } ∧
      k.code.toNat = f.toNat / 2 ^ 28 % 8) ∧
    (∃ d : BitVec 8, exec (.getDataId f) s = .next { s with resultLog := s.resultLog ++ [.dataId d] } ∧
      d.toNat = f.toNat / 2 ^ 16 % 256) ∧
    (∃ u : BitVec 16, exec (.getU16 f) s = .next { s with resultLog := s.resultLog ++ [.unsigned u] } ∧
      u.toNat = f.toNat % 65536)

/-- R116: GET_F88's q is the two's-complement payload, and q/256 is the value both lines of the rule compute. -/
def Obligations.FixedPointExtraction : Prop :=
  (∀ (w : CommandWord) (v : Value), opField w = 0b00110#5 → decode (.command w v) = .ok (.getF88 (w.extractLsb' 0 32))) ∧
  ∀ (f : Frame) (s : State), ∃ q : Int,
    exec (.getF88 f) s = .next { s with resultLog := s.resultLog ++ [.fixedPoint q] } ∧
    q = (f.extractLsb' 0 16).toInt ∧
    ((q : ℚ) / 256 = if f.getLsbD 15 = true then -(65536 - ((f.toNat % 65536 : Nat) : ℚ)) / 256
      else ((f.toNat % 65536 : Nat) : ℚ) / 256)

/-- R117: TEMP_TO_F88 clamps to [0, 100], scales by 256 and takes the floor; an operand that is no rational is refused. -/
def Obligations.TemperatureConversion : Prop :=
  (∀ (w : CommandWord) (v : Value), opField w = 0b00111#5 → decode (.command w v) = .ok (.tempToF88 v)) ∧
  (∀ (num : Int) (den : Nat) (s : State), den ≠ 0 → ∃ p : BitVec 16,
    exec (.tempToF88 (.ratio num den)) s = .next { s with resultLog := s.resultLog ++ [.payload p] } ∧
    (p.toNat : ℤ) = ⌊max 0 (min 100 ((num : ℚ) / (den : ℚ))) * 256⌋) ∧
  (∀ (v : Value) (s : State), v = .nan ∨ v = .posInfinity ∨ v = .negInfinity → s.mark = none →
    exec (.tempToF88 v) s = .next { s with mark := some .notANumber })

/-- R118 to R123: each status flag is the payload bit at its position of FLAG_POS. -/
def Obligations.StatusFlags : Prop :=
  (∀ (w : CommandWord) (v : Value),
    (opField w = 0b01000#5 → decode (.command w v) = .ok (.isFault (w.extractLsb' 0 32))) ∧
    (opField w = 0b01001#5 → decode (.command w v) = .ok (.isChActive (w.extractLsb' 0 32))) ∧
    (opField w = 0b01010#5 → decode (.command w v) = .ok (.isDhwActive (w.extractLsb' 0 32))) ∧
    (opField w = 0b01011#5 → decode (.command w v) = .ok (.isFlameOn (w.extractLsb' 0 32))) ∧
    (opField w = 0b01100#5 → decode (.command w v) = .ok (.isCoolingActive (w.extractLsb' 0 32))) ∧
    (opField w = 0b01101#5 → decode (.command w v) = .ok (.isDiagnostic (w.extractLsb' 0 32)))) ∧
  (FlagPos.default.fault = 0 ∧ FlagPos.default.chActive = 1 ∧ FlagPos.default.dhwActive = 2 ∧
    FlagPos.default.flameOn = 3 ∧ FlagPos.default.coolingActive = 4 ∧ FlagPos.default.diagnostic = 6) ∧
  ∀ (f : Frame) (s : State),
    exec (.isFault f) s = .next { s with resultLog := s.resultLog ++
      [.bit (decide (f.toNat / 2 ^ s.cfg.flagPos.fault.val % 2 = 1))] } ∧
    exec (.isChActive f) s = .next { s with resultLog := s.resultLog ++
      [.bit (decide (f.toNat / 2 ^ s.cfg.flagPos.chActive.val % 2 = 1))] } ∧
    exec (.isDhwActive f) s = .next { s with resultLog := s.resultLog ++
      [.bit (decide (f.toNat / 2 ^ s.cfg.flagPos.dhwActive.val % 2 = 1))] } ∧
    exec (.isFlameOn f) s = .next { s with resultLog := s.resultLog ++
      [.bit (decide (f.toNat / 2 ^ s.cfg.flagPos.flameOn.val % 2 = 1))] } ∧
    exec (.isCoolingActive f) s = .next { s with resultLog := s.resultLog ++
      [.bit (decide (f.toNat / 2 ^ s.cfg.flagPos.coolingActive.val % 2 = 1))] } ∧
    exec (.isDiagnostic f) s = .next { s with resultLog := s.resultLog ++
      [.bit (decide (f.toNat / 2 ^ s.cfg.flagPos.diagnostic.val % 2 = 1))] }

/-- R126: the six codec laws, which the spec marks as its own inference [derived: from rules R110 to R117]. -/
def Obligations.CodecLaws : Prop :=
  (∀ (k : MessageKind) (id : BitVec 8) (p : BitVec 16),
    oddParity (requestFrame k id p) = false ∧
    kindOf (requestFrame k id p) = (if k = .writeData then .writeData else .readData) ∧
    framePayload (requestFrame k id p) = p ∧ frameId (requestFrame k id p) = id ∧
    validResponse (requestFrame k id p) = false) ∧
  (∀ (num : Int) (den : Nat) (f : Frame), den ≠ 0 → temperatureOf (.ratio num den) = some (framePayload f) →
    0 ≤ min (max ((num : ℚ) / den) 0) 100 - (fixedPointOf (framePayload f) : ℚ) / 256 ∧
    min (max ((num : ℚ) / den) 0) 100 - (fixedPointOf (framePayload f) : ℚ) / 256 < 1 / 256) ∧
  (∀ f : Frame, validResponse f = true → validResponse (f ^^^ 0x80000000#32) = false)

/-- R124: a codec operation reads no register and writes none; its result depends on its operands (and FLAG_POS) alone. A
TEMP_TO_F88 whose operand is no rational is refused, NOT_A_NUMBER, and changes the mark alone (R117; that a first mark stays
is log entry 3). -/
def Obligations.CodecIsPure : Prop :=
  (∀ (i : Instr) (p : FlagPos), isCodec i = true → (∀ v, i = .tempToF88 v → temperatureOf v ≠ none) →
    ∃ r : CommandResult, ∀ s : State, s.cfg.flagPos = p → exec i s = .next { s with resultLog := s.resultLog ++ [r] }) ∧
  (∀ (v : Value) (s : State), temperatureOf v = none →
    exec (.tempToF88 v) s = .next { s with mark := some (s.mark.getD .notANumber) })

/-! ### The transmitter -/

/-- R141 (with R140, R142): a pass of the transmitter's loop drives half-bit `tx_h` of the line frame and holds 500 µs. -/
def Obligations.TransmitHalfBit : Prop :=
  ∀ (f : Frame) (s : State), s.txH.toNat < 68 →
    exec (.transmit f) s = .next { s with
      txLine :=
        (let b := if s.txH.toNat / 2 = 0 ∨ s.txH.toNat / 2 = 33 then true else f.getLsbD (32 - s.txH.toNat / 2)
         if b = decide (s.txH.toNat % 2 = 0) then .active else .idle)
      txH := s.txH + 1
      holdUntil := s.now + 500 }

/-- R143, R184, R185: after the last half-bit the line is IDLE and the exchange waits for its response, in one step. SEND
returns 1 and frees the port; SEND_AND_WAIT goes on to wait. -/
def Obligations.TransmitCompletion : Prop :=
  ∀ (f : Frame) (s : State), 68 ≤ s.txH.toNat →
    (s.waitAfterTx = false → exec (.transmit f) s = .next { s with
      txLine := .idle, state := .awaitingStart, ts := s.now, port := .free, holdUntil := s.now,
      resultLog := s.resultLog ++ [.accepted true] }) ∧
    (s.waitAfterTx = true → exec (.transmit f) s = .next { s with
      txLine := .idle, state := .awaitingStart, ts := s.now, port := .wait, holdUntil := s.now })

/-- R140 to R143, R184: a whole transmission from half-bit 0, with every hold at its minimum, drives the 68 half-bits of the
line frame in order and ends IDLE in AWAITING_START, 34,000 µs after it began. It is a SEND's transmission, with no edge between
its moves. That the 69th move both drives IDLE and completes SEND is the model's DEDUCED reading (log entry 7). -/
def Obligations.WholeTransmission : Prop :=
  ∀ (s : State) (rest : List Event) (t0 : Nat),
    s.port = .tx → s.txH = 0 → s.waitAfterTx = false → s.now ≤ t0 → s.holdUntil ≤ t0 →
    t0 + 34000 < 2 ^ s.cfg.clockWidth → s.inputs = transmitMoves t0 ++ rest →
    (∀ k, k < 68 → ∃ t, core.run (k + 1) s = .next t ∧ t.txLine = TxLine.ofLevel (halfBit s.txFrame k) ∧
      t.state = s.state ∧ t.port = .tx) ∧
    (∃ t, core.run 69 s = .next t ∧ t.txLine = .idle ∧ t.state = .awaitingStart ∧ t.port = .free ∧
      t.ts = t0 + 34000 ∧ t.resultLog = s.resultLog ++ [.accepted true] ∧ t.inputs = rest)

/-! ### The decoder -/

/-- R70, R151, R154: an edge that is discarded because delivery is disabled, that comes outside the three receiving-capable
states, or that comes within 750 µs of the last sample, changes no register. -/
def Obligations.EdgesWithoutEffect : Prop :=
  ∀ (s : State) (l : Level),
    (s.edgeEn = false → exec (.edge l) s = .next s) ∧
    (s.state = .uninitialized ∨ s.state = .ready ∨ s.state = .sending ∨ s.state = .frameReady ∨ s.state = .frameInvalid ∨
      s.state = .quietPeriod → exec (.edge l) s = .next s) ∧
    (s.state = .receiving ∧ s.elapsed s.ts ≤ 750 → exec (.edge l) s = .next s)

/-- R152: the first edge of the response. -/
def Obligations.FirstEdge : Prop :=
  ∀ (s : State) (l : Level), s.edgeEn = true → s.state = .awaitingStart →
    exec (.edge l) s = .next { s with
      ts := s.now, state := if l = .active then .startReceived else .frameInvalid }

/-- R153: the middle of the start bit. -/
def Obligations.StartBitEdge : Prop :=
  ∀ (s : State) (l : Level), s.edgeEn = true → s.state = .startReceived →
    (s.elapsed s.ts < 750 ∧ l = .idle →
      exec (.edge l) s = .next { s with state := .receiving, bitcount := 0, ts := s.now }) ∧
    (¬ (s.elapsed s.ts < 750 ∧ l = .idle) →
      exec (.edge l) s = .next { s with state := .frameInvalid, ts := s.now })

/-- R155: a data bit, as a number: the accumulator doubles and takes the complement of the level. -/
def Obligations.DataBit : Prop :=
  ∀ (s : State) (l : Level), s.edgeEn = true → s.state = .receiving → 750 < s.elapsed s.ts → s.bitcount.toNat < 32 →
    ∃ (r : Frame) (n : BitVec 6), exec (.edge l) s = .next { s with response := r, bitcount := n, ts := s.now } ∧
      r.toNat = (2 * s.response.toNat + (if l = .idle then 1 else 0)) % 2 ^ 32 ∧ n.toNat = s.bitcount.toNat + 1

/-- R156: the stop bit, for both values of STOP_BIT_CHECK. -/
def Obligations.StopBit : Prop :=
  ∀ (s : State) (l : Level), s.edgeEn = true → s.state = .receiving → 750 < s.elapsed s.ts → s.bitcount = 32 →
    exec (.edge l) s = .next { s with
      state := if s.cfg.stopBitCheck = true ∧ l = .active then .frameInvalid else .frameReady, ts := s.now }

/-- R157, R35: an EDGE completes in one step and writes no register but the decoder's four: no outcome, no DONE, no hold. -/
def Obligations.EdgeFrameRule : Prop :=
  ∀ (s : State) (l : Level), ∃ (st : SessionState) (r : Frame) (n : BitVec 6) (ts : Nat),
    exec (.edge l) s = .next { s with state := st, response := r, bitcount := n, ts := ts }

/-- R158, which the spec marks as its own inference [derived: from rules R152 to R156 and R86 to R89]: the nominal edges of any frame, delivered from AWAITING_START, give FRAME_READY with that frame, through START_RECEIVED
and RECEIVING alone. -/
def Obligations.NominalDecoding : Prop :=
  ∀ (s : State) (R : Frame) (t0 : Nat) (rest : List Event),
    s.state = .awaitingStart → s.edgeEn = true → s.now ≤ t0 → t0 + 33500 < 2 ^ s.cfg.clockWidth →
    s.inputs = nominalEdges R t0 ++ rest →
    (∀ k, 0 < k → k < (nominalEdges R t0).length → ∃ t, core.run k s = .next t ∧
      (t.state = .startReceived ∨ t.state = .receiving)) ∧
    core.run (nominalEdges R t0).length s = .next { s with
      state := .frameReady, response := R, bitcount := 32, ts := t0 + 33500, now := t0 + 33500, inputs := rest }

/-- R161, which the spec marks as its own inference [derived: from rules R151 to R156]: between two accepted sends the decoder
writes `ts` at most 35 times. An edge that changes anything uses up one of a budget of at most 35; the end of a transmission alone
raises the budget, from a state only an accepted send leads to (`OnlySendOpensExchange`); any step that changes `ts` in a
receiving state lowers it, and outside those states and SENDING only a reset changes `ts`. -/
def Obligations.EdgeActivityBounded : Prop :=
  (∀ (s : State) (l : Level), edgeBudget s ≤ 35 ∧
    (s.bitcount.toNat ≤ 32 → ∀ t, exec (.edge l) s = .next t → t = s ∨ edgeBudget t < edgeBudget s)) ∧
  (∀ s t : State, s.ControlInv → s.bitcount.toNat ≤ 32 → step s = .next t →
    (s.state ≠ .sending → edgeBudget t ≤ edgeBudget s) ∧
    (edgeBudget s < edgeBudget t → s.state = .sending ∧ t.state = .awaitingStart ∧ 68 ≤ s.txH.toNat ∧
      ∃ time rest, s.inputs = { time := time, input := .resume } :: rest) ∧
    (s.state = .awaitingStart ∨ s.state = .startReceived ∨ s.state = .receiving → t.ts ≠ s.ts →
      edgeBudget t < edgeBudget s) ∧
    (s.state ≠ .awaitingStart → s.state ≠ .startReceived → s.state ≠ .receiving → s.state ≠ .sending →
      (∀ time rest, s.inputs ≠ { time := time, input := .reset } :: rest) → t.ts = s.ts))

/-! ### The session -/

/-- R180: START's first step, and its two refusals in their order. `state` stays UNINITIALIZED during the hold; `StartCompletes`
states the step that makes it READY. -/
def Obligations.StartBegins : Prop :=
  (∀ (w : CommandWord) (v : Value), opField w = 0b10000#5 → decode (.command w v) = .ok .start) ∧
  ∀ s : State,
    (s.shut = false → s.state = .uninitialized →
      exec .start s = .next { s with edgeEn := true, txLine := .idle, port := .wake, holdUntil := s.now + 1000000 }) ∧
    (s.shut = true → s.mark = none → exec .start s = .next { s with mark := some .engineStopped }) ∧
    (s.shut = false → s.state ≠ .uninitialized → s.mark = none →
      exec .start s = .next { s with mark := some .alreadyStarted })

/-- R181: START's completion, at any time from the end of the hold on (which `StartBegins` puts 1,000,000 µs after START's step)
and not before it. That an earlier move samples the clock and does nothing else is the model's DEDUCED reading (log entry 6). -/
def Obligations.StartCompletes : Prop :=
  ∀ (s : State) (rest : List Event) (time : Nat),
    s.inputs = { time := time, input := .resume } :: rest → s.port = .wake → s.now ≤ time →
    time < 2 ^ s.cfg.clockWidth →
    (s.holdUntil ≤ time → step s = .next { s with inputs := rest, now := time, state := .ready, port := .free }) ∧
    (time < s.holdUntil → step s = .next { s with inputs := rest, now := time })

/-- R182: STOP. -/
def Obligations.StopShutsDown : Prop :=
  (∀ (w : CommandWord) (v : Value), opField w = 0b10001#5 → decode (.command w v) = .ok .stop) ∧
  ∀ s : State, s.shut = false → exec .stop s = .next { s with edgeEn := false, shut := true }

/-- R183, R222: SEND is accepted in READY and nowhere else; a rejected one returns 0 and writes no register. -/
def Obligations.SendAcceptance : Prop :=
  (∀ (w : CommandWord) (v : Value), opField w = 0b10010#5 → decode (.command w v) = .ok (.send (w.extractLsb' 0 32))) ∧
  ∀ (f : Frame) (s : State),
    (s.shut = false → s.state = .ready → exec (.send f) s = .next { s with
      state := .sending, response := 0, outcome := .none, txFrame := f, txH := 0, port := .tx, waitAfterTx := false,
      holdUntil := s.now }) ∧
    (s.shut = false → s.state ≠ .ready →
      exec (.send f) s = .next { s with resultLog := s.resultLog ++ [.accepted false] }) ∧
    (s.shut = true → s.mark = none → exec (.send f) s = .next { s with mark := some .engineStopped })

/-- R185: SEND_AND_WAIT makes SEND's writes in READY, and elsewhere returns the zero frame at once. That no hold stands before the
first half-bit, and the model's own fields `waitAfterTx` and `holdUntil`, are log entries 7 and 8. -/
def Obligations.SendAndWaitAcceptance : Prop :=
  (∀ (w : CommandWord) (v : Value), opField w = 0b10011#5 →
    decode (.command w v) = .ok (.sendAndWait (w.extractLsb' 0 32))) ∧
  ∀ (f : Frame) (s : State), s.shut = false →
    (s.state = .ready → exec (.sendAndWait f) s = .next { s with
      state := .sending, response := 0, outcome := .none, txFrame := f, txH := 0, port := .tx, waitAfterTx := true,
      holdUntil := s.now }) ∧
    (s.state ≠ .ready → exec (.sendAndWait f) s = .next { s with resultLog := s.resultLog ++ [.frame 0] })

/-- R185, R192: a pass of SEND_AND_WAIT's loop is the step of TICK, and READY ends the loop with `response` as it stands. Where the
internal TICK is split, its first step is TICK's own, and its second is the second step of a split TICK command (which
`TickSplitPhases` states, with the port FREE), after which the loop's test comes. That a hold of 0 stands for the host's delay, and
the loop's test in the step of the internal TICK, is the model's DEDUCED reading (log entry 21), and so is that an internal TICK
splits (log entry 9). -/
def Obligations.SendAndWaitLoop : Prop :=
  (∀ (s : State) (rest : List Event) (time : Nat) (u : State),
    s.inputs = { time := time, input := .resume } :: rest → s.port = .wait → s.tickSnap = none →
    s.now ≤ time → s.holdUntil ≤ time → time < 2 ^ s.cfg.clockWidth →
    exec .tick { s with inputs := rest, now := time } = .next u →
    (u.tickSnap = none → step s = .next (if u.state = .ready
      then { u with port := .free, resultLog := u.resultLog ++ [.frame u.response] }
      else { u with holdUntil := u.now })) ∧
    (u.tickSnap ≠ none → step s = .next u)) ∧
  (∀ (s : State) (rest : List Event) (time : Nat) (snap : TickSnapshot),
    s.inputs = { time := time, input := .resume } :: rest → s.port = .wait → s.tickSnap = some snap →
    s.now ≤ time → s.holdUntil ≤ time → time < 2 ^ s.cfg.clockWidth →
    ∃ u, step { s with port := .free } = .next u ∧
      step s = .next (if u.state = .ready
        then { u with resultLog := u.resultLog ++ [.frame u.response] }
        else { u with port := .wait, holdUntil := time }))

/-- R182, R223, R226: after STOP every session command is refused, ENGINE_STOPPED, before any other effect, and changes no
register. -/
def Obligations.EngineStoppedRefusals : Prop :=
  ∀ (s : State) (f : Frame), s.shut = true → s.mark = none →
    exec .start s = .next { s with mark := some .engineStopped } ∧
    exec .stop s = .next { s with mark := some .engineStopped } ∧
    exec (.send f) s = .next { s with mark := some .engineStopped } ∧
    exec (.sendAndWait f) s = .next { s with mark := some .engineStopped } ∧
    exec .tick s = .next { s with mark := some .engineStopped } ∧
    exec .readStatus s = .next { s with mark := some .engineStopped }

/-- R187: a TICK more than 800,000 µs after `ts` in an open exchange reports TIMEOUT, whatever the decoder has reached. -/
def Obligations.TickTimeout : Prop :=
  ∀ s : State, s.shut = false → s.cfg.tickSplitPhase = false →
    s.state ≠ .uninitialized → s.state ≠ .ready → s.state ≠ .quietPeriod → 800000 < s.elapsed s.ts →
    exec .tick s = .next { s with
      outcome := .timeout, state := .ready,
      doneLog := s.doneLog ++ [{ frame := s.response, outcome := .timeout, time := s.now }] }

/-- R188: a TICK that finds FRAME_INVALID in time reports INVALID. -/
def Obligations.TickInvalidFrame : Prop :=
  ∀ s : State, s.shut = false → s.cfg.tickSplitPhase = false → s.state = .frameInvalid → s.elapsed s.ts ≤ 800000 →
    exec .tick s = .next { s with
      outcome := .invalid, state := .quietPeriod,
      doneLog := s.doneLog ++ [{ frame := s.response, outcome := .invalid, time := s.now }] }

/-- R189: a TICK that finds FRAME_READY in time reports SUCCESS for a valid response, else INVALID. -/
def Obligations.TickFrameReceived : Prop :=
  ∀ s : State, s.shut = false → s.cfg.tickSplitPhase = false → s.state = .frameReady → s.elapsed s.ts ≤ 800000 →
    ∃ o : ExchangeOutcome, (o = .success ∨ o = .invalid) ∧
      (o = .success ↔
        ones s.response % 2 = 0 ∧ (s.response.extractLsb' 28 3 = 0b100#3 ∨ s.response.extractLsb' 28 3 = 0b101#3)) ∧
      exec .tick s = .next { s with
        outcome := o, state := .quietPeriod,
        doneLog := s.doneLog ++ [{ frame := s.response, outcome := o, time := s.now }] }

/-- R190: a TICK more than 100,000 µs after `ts` ends the quiet period, with no DONE, and one at 100,000 µs or before does not. -/
def Obligations.TickQuietEnds : Prop :=
  ∀ s : State, s.shut = false → s.cfg.tickSplitPhase = false → s.state = .quietPeriod →
    (100000 < s.elapsed s.ts → exec .tick s = .next { s with state := .ready }) ∧
    (s.elapsed s.ts ≤ 100000 → exec .tick s = .next s)

/-- R191: where TICK changes no register and emits nothing. SENDING in time is here by the else branch of R186, "mid-transmission". -/
def Obligations.TickNoAction : Prop :=
  ∀ s : State, s.shut = false → s.cfg.tickSplitPhase = false →
    (s.state = .ready ∨ s.state = .uninitialized ∨
      ((s.state = .sending ∨ s.state = .awaitingStart ∨ s.state = .startReceived ∨ s.state = .receiving) ∧
        s.elapsed s.ts ≤ 800000) ∨
      (s.state = .quietPeriod ∧ s.elapsed s.ts ≤ 100000)) →
    exec .tick s = .next s

/-- R192: with TICK_SPLIT_PHASE a TICK first takes its snapshot, and the polling agent's next move applies the policy from the
snapshot, not from the registers, with `response` as it then is. -/
def Obligations.TickSplitPhases : Prop :=
  (∀ s : State, s.shut = false → s.cfg.tickSplitPhase = true →
    exec .tick s = .next { s with
      tickSnap := some { state := s.state, elapsed := s.elapsed s.ts }, holdUntil := s.now }) ∧
  (∀ (s : State) (rest : List Event) (time : Nat) (snap : TickSnapshot),
    s.inputs = { time := time, input := .resume } :: rest → s.port = .free → s.tickSnap = some snap →
    s.now ≤ time → s.holdUntil ≤ time → time < 2 ^ s.cfg.clockWidth →
    (snap.state ≠ .uninitialized ∧ snap.state ≠ .ready ∧ snap.state ≠ .quietPeriod ∧ 800000 < snap.elapsed →
      step s = .next { s with
        inputs := rest, now := time, tickSnap := none, outcome := .timeout, state := .ready,
        doneLog := s.doneLog ++ [{ frame := s.response, outcome := .timeout, time := time }] }) ∧
    (snap.state = .frameInvalid ∧ snap.elapsed ≤ 800000 →
      step s = .next { s with
        inputs := rest, now := time, tickSnap := none, outcome := .invalid, state := .quietPeriod,
        doneLog := s.doneLog ++ [{ frame := s.response, outcome := .invalid, time := time }] }) ∧
    (snap.state = .frameReady ∧ snap.elapsed ≤ 800000 →
      step s = .next { s with
        inputs := rest, now := time, tickSnap := none, state := .quietPeriod,
        outcome := if validResponse s.response = true then .success else .invalid,
        doneLog := s.doneLog ++ [{ frame := s.response,
                                   outcome := if validResponse s.response = true then .success else .invalid,
                                   time := time }] }) ∧
    (snap.state = .quietPeriod ∧ 100000 < snap.elapsed →
      step s = .next { s with inputs := rest, now := time, tickSnap := none, state := .ready }) ∧
    (snap.state = .uninitialized ∨ snap.state = .ready ∨ (snap.state = .quietPeriod ∧ snap.elapsed ≤ 100000) ∨
        ((snap.state = .sending ∨ snap.state = .awaitingStart ∨ snap.state = .startReceived ∨ snap.state = .receiving) ∧
          snap.elapsed ≤ 800000) →
      step s = .next { s with inputs := rest, now := time, tickSnap := none }))

/-- R193, R94: READ_STATUS returns the codes of R21 and R24 and `response`, and has no side effect. -/
def Obligations.ReadStatusResult : Prop :=
  (∀ (w : CommandWord) (v : Value), opField w = 0b10101#5 → decode (.command w v) = .ok .readStatus) ∧
  ∀ s : State,
    (s.shut = true → s.mark = none → exec .readStatus s = .next { s with mark := some .engineStopped }) ∧
    (s.shut = false → exec .readStatus s = .next { s with resultLog := s.resultLog ++ [.status
      (match s.state with
       | .uninitialized => 0 | .ready => 1 | .sending => 2 | .awaitingStart => 3 | .startReceived => 4
       | .receiving => 5 | .frameReady => 6 | .frameInvalid => 7 | .quietPeriod => 8)
      (match s.outcome with | .none => 0 | .success => 1 | .invalid => 2 | .timeout => 3)
      s.response] })

/-! ### Refusals, reports, reset -/

/-- R223: an instruction that sets the mark changes nothing else: no register, no DONE, no result. And no instruction clears or
replaces a mark (that the first one stays is the model's choice, log entry 3). -/
def Obligations.RefusalChangesOnlyMark : Prop :=
  ∀ (i : Instr) (s t : State), exec i s = .next t → t.mark ≠ s.mark →
    s.mark = none ∧ ∃ r : RefusalReason, t = { s with mark := some r }

/-- R34, R9: a step only appends to the outputs, at most one DONE and one result, and keeps a mark and the parameters. R253: a run
ends at the first point where the polling agent is free and only its idle moves or a reset of the host are to come (log entry 27:
the model's reading of what a program lists), and after it the polling agent's moves change nothing of the end state. -/
def Obligations.OutputsOnlyGrow : Prop :=
  (∀ s t : State, step s = .next t →
    (∃ d : List DoneEvent, d.length ≤ 1 ∧ t.doneLog = s.doneLog ++ d) ∧
    (∃ r : List CommandResult, r.length ≤ 1 ∧ t.resultLog = s.resultLog ++ r) ∧
    (∀ r, s.mark = some r → t.mark = some r) ∧ t.cfg = s.cfg) ∧
  (∀ s : State, s.runEnded = true ↔
    s.port = .free ∧ s.tickSnap = none ∧ ∀ e ∈ s.inputs, e.input = .resume ∨ e.input = .reset) ∧
  (∀ (n : Nat) (s : State) (e : EndState), runToEnd n s = some (.next e) ↔
    ∃ (k : Nat) (t : State), k ≤ n ∧ core.run k s = .next t ∧ t.runEnded = true ∧ t.endState = e ∧
      ∀ (j : Nat) (u : State), j < k → core.run j s = .next u → u.runEnded = false) ∧
  (∀ s t : State, s.runEnded = true → step s = .next t →
    (∀ e ∈ s.inputs.head?, e.input ≠ .reset ∧ s.now ≤ e.time % 2 ^ s.cfg.clockWidth) →
    t.endState = s.endState ∧ t.runEnded = true)

/-- R195, R227: a DONE ends an open exchange, carries `response` and the outcome written in its step, and leaves READY or
QUIET_PERIOD, where no exchange is open. -/
def Obligations.OneReportPerExchange : Prop :=
  ∀ s t : State, s.ControlInv → step s = .next t → t.doneLog ≠ s.doneLog →
    s.state.eligible = true ∧ (t.state = .ready ∨ t.state = .quietPeriod) ∧ t.state.eligible = false ∧
    t.doneLog = s.doneLog ++ [{ frame := s.response, outcome := t.outcome, time := t.now }] ∧ t.outcome ≠ .none

/-- R195: only an accepted SEND or SEND_AND_WAIT opens an exchange. -/
def Obligations.OnlySendOpensExchange : Prop :=
  ∀ s t : State, s.ControlInv → step s = .next t → s.state.eligible = false → t.state.eligible = true →
    s.state = .ready ∧ s.shut = false ∧ t.state = .sending ∧ t.outcome = .none ∧ t.response = 0 ∧
    ∃ time w v rest, s.inputs = { time := time, input := .command w v } :: rest ∧
      (opField w = 0b10010#5 ∨ opField w = 0b10011#5)

/-- R196: with the parameters that the table takes, no step but a reset changes `state` in any way that is not a row of the
transition table, under that row's event and guard and with that row's DONE. -/
def Obligations.OnlyTableTransitions : Prop :=
  ∀ (s t : State) (rest : List Event) (time : Nat) (i : Input), s.ControlInv →
    s.cfg.stopBitCheck = false → s.cfg.tickSplitPhase = false → s.tickSnap = none →
    s.inputs = { time := time, input := i } :: rest → i ≠ .reset →
    step s = .next t → t.state ≠ s.state → tableRow s t i (State.elapsed { s with now := t.now } s.ts)

/-- R250, R41: reset, in one step and in any state. -/
def Obligations.ResetEffect : Prop :=
  ∀ (s : State) (rest : List Event) (time : Nat), s.inputs = { time := time, input := .reset } :: rest →
    ∃ t, step s = .next t ∧ t.state = .uninitialized ∧ t.outcome = .none ∧ t.response = 0 ∧ t.ts = 0 ∧ t.bitcount = 0 ∧
      t.edgeEn = false ∧ t.shut = false ∧ t.txLine = .undriven ∧ t.txFrame = 0 ∧ t.txH = 0 ∧ t.port = .free ∧
      t.doneLog = s.doneLog ∧ t.now = s.now

/-- R41, R251: what the state after reset holds, and what the caller's first commands do in it. -/
def Obligations.ResetState : Prop :=
  (let s := State.reset
   s.state = .uninitialized ∧ s.outcome = .none ∧ s.response = 0 ∧ s.ts = 0 ∧ s.bitcount = 0 ∧ s.edgeEn = false ∧
   s.shut = false ∧ s.txLine = .undriven ∧ s.txFrame = 0 ∧ s.txH = 0 ∧ s.port = .free) ∧
  exec .tick State.reset = .next State.reset ∧
  (∀ f, exec (.send f) State.reset = .next { State.reset with resultLog := [.accepted false] }) ∧
  (∀ f, exec (.sendAndWait f) State.reset = .next { State.reset with resultLog := [.frame 0] }) ∧
  exec .readStatus State.reset = .next { State.reset with resultLog := [.status 0 0 0] }

/-! ### Frames on the line -/

/-- R80 to R82, R89: each of the eight frame rows puts the nominal edges of its frame among the events to come, in their order and
from this step's clock value, and changes nothing else. Each edge stands after the edges before it and every event up to the first
that is later than it, and before that event. (That the row's meaning is this, and the edges' place, is DEDUCED: log entry 15.) -/
def Obligations.FrameRowsScheduleEdges : Prop :=
  ∀ (p : BitVec 1) (sp : BitVec 4) (id : BitVec 8) (v : BitVec 16) (s : State) (i : Instr) (k : BitVec 3),
    (i, k) ∈ [(Instr.frameReadData p sp id v, 0#3), (.frameWriteData p sp id v, 1#3), (.frameInvalidData p sp id v, 2#3),
      (.frameReserved p sp id v, 3#3), (.frameReadAck p sp id v, 4#3), (.frameWriteAck p sp id v, 5#3),
      (.frameDataInvalid p sp id v, 6#3), (.frameUnknownDataId p sp id v, 7#3)] →
    ∃ q : List Event, exec i s = .next { s with inputs := q } ∧
      List.Perm q (nominalEdges (frameOf p k sp id v) s.now ++ s.inputs) ∧
      List.Sublist (nominalEdges (frameOf p k sp id v) s.now) q ∧ List.Sublist s.inputs q ∧
      ∀ (e : Event) (pre post : List Event), nominalEdges (frameOf p k sp id v) s.now = pre ++ e :: post →
        ∃ front back : List Event, q = front ++ e :: back ∧
          List.Perm front (pre ++ s.inputs.takeWhile fun x => decide (x.time ≤ e.time)) ∧
          List.Perm back (post ++ s.inputs.dropWhile fun x => decide (x.time ≤ e.time))

/-- R89: the edges of a nominal line frame: a transition exactly where the level changes; 35 plus one for each equal adjacent pair
of the 34 bits, between 36 and 68. The count is the spec's own inference [derived: from rules R86 and R87]. -/
def Obligations.NominalEdgeCount : Prop :=
  ∀ (f : Frame) (t0 : Nat),
    (∀ e : Event, e ∈ nominalEdges f t0 ↔ ∃ k, k < 68 ∧ halfBit f k ≠ levelBefore f k ∧
      e = { time := t0 + 500 * k, input := .edge (edgeWord (halfBit f k)) }) ∧
    (nominalEdges f t0).length =
      35 + (Finset.univ.filter fun j : Fin 33 => lineBit f j.val = lineBit f (j.val + 1)).card ∧
    36 ≤ (nominalEdges f t0).length ∧ (nominalEdges f t0).length ≤ 68

/-! ### Invariants -/

/-- The state after reset meets the invariant. -/
def Obligations.ResetMeetsInvariant : Prop := State.reset.Inv

/-- R22, R27 to R31, R43, R143, R180, R192: every step keeps the invariant of the control registers. -/
def Obligations.ControlInvariantKept : Prop :=
  ∀ s t : State, s.ControlInv → step s = .next t → t.ControlInv

/-- R26, R30, R42, R160: every step keeps the invariant of the receiver's and the transmitter's registers. -/
def Obligations.ReceiveInvariantKept : Prop :=
  ∀ s t : State, s.ControlInv → s.ReceiveInv → step s = .next t → t.ReceiveInv

/-- R25, R74: every step keeps the clock invariant, and the clock sample never goes down. -/
def Obligations.ClockInvariantKept : Prop :=
  ∀ s t : State, s.ClockInv → step s = .next t → t.ClockInv ∧ s.now ≤ t.now

/-- R232: a step of one of several lines leaves every other line as it was. -/
def Obligations.LinesAreIndependent : Prop :=
  ∀ (lines lines' : List State) (k : Nat), stepLine lines k = some (.next lines') →
    lines'.length = lines.length ∧ (∀ j, j ≠ k → lines'[j]? = lines[j]?) ∧
    ∃ s t, lines[k]? = some s ∧ step s = .next t ∧ lines'[k]? = some t
end

