-- ==== Sys2Proof/Laws/Decode.lean ====
section
/-!
SUPPORT. The fields of a word that is built from fields, and the codes both ways.
-/

namespace Sys2Proof

@[simp] theorem MessageKind.ofCode_code (k : MessageKind) : MessageKind.ofCode k.code = k := by
  cases k <;> rfl

@[simp] theorem MessageKind.code_ofCode (c : BitVec 3) : (MessageKind.ofCode c).code = c := by
  revert c; decide

@[simp] theorem Level.ofBit_bit (l : Level) : Level.ofBit l.bit = l := by cases l <;> rfl

@[simp] theorem Level.bit_ofBit (b : BitVec 1) : (Level.ofBit b).bit = b := by revert b; decide

section CommandFields
variable (op : BitVec 5) (kind : BitVec 3) (id : BitVec 8) (payload : BitVec 16) (frame : Frame)

@[simp] theorem opField_commandWord : opField (commandWord op kind id payload frame) = op := by
  apply BitVec.eq_of_getLsbD_eq
  intro j hj
  interval_cases j <;> simp [opField, commandWord]

@[simp] theorem kindField_commandWord : kindField (commandWord op kind id payload frame) = kind := by
  apply BitVec.eq_of_getLsbD_eq
  intro j hj
  interval_cases j <;> simp [kindField, commandWord]

@[simp] theorem idField_commandWord : idField (commandWord op kind id payload frame) = id := by
  apply BitVec.eq_of_getLsbD_eq
  intro j hj
  interval_cases j <;> simp [idField, commandWord]

@[simp] theorem payloadField_commandWord : payloadField (commandWord op kind id payload frame) = payload := by
  apply BitVec.eq_of_getLsbD_eq
  intro j hj
  interval_cases j <;> simp [payloadField, commandWord]

@[simp] theorem frameField_commandWord : frameField (commandWord op kind id payload frame) = frame := by
  apply BitVec.eq_of_getLsbD_eq
  intro j hj
  interval_cases j <;> simp [frameField, commandWord]

@[simp] theorem levelField_commandWord :
    levelField (commandWord op kind id payload frame) = frame.extractLsb' 0 1 := by
  apply BitVec.eq_of_getLsbD_eq
  intro j hj
  interval_cases j; simp [levelField, commandWord]

end CommandFields

section FrameFields
variable (p : BitVec 1) (k : BitVec 3) (s : BitVec 4) (id : BitVec 8) (v : BitVec 16)

@[simp] theorem frameParity_frameOf : frameParity (frameOf p k s id v) = p := by
  apply BitVec.eq_of_getLsbD_eq
  intro j hj
  interval_cases j; simp [frameParity, frameOf]

@[simp] theorem frameKindCode_frameOf : frameKindCode (frameOf p k s id v) = k := by
  apply BitVec.eq_of_getLsbD_eq
  intro j hj
  interval_cases j <;> simp [frameKindCode, frameOf]

@[simp] theorem frameSpare_frameOf : frameSpare (frameOf p k s id v) = s := by
  apply BitVec.eq_of_getLsbD_eq
  intro j hj
  interval_cases j <;> simp [frameSpare, frameOf]

@[simp] theorem frameId_frameOf : frameId (frameOf p k s id v) = id := by
  apply BitVec.eq_of_getLsbD_eq
  intro j hj
  interval_cases j <;> simp [frameId, frameOf]

@[simp] theorem framePayload_frameOf : framePayload (frameOf p k s id v) = v := by
  apply BitVec.eq_of_getLsbD_eq
  intro j hj
  interval_cases j <;> simp [framePayload, frameOf]

end FrameFields

/-- A frame is its fields put together (R81). -/
theorem frameOf_fields (f : Frame) :
    frameOf (frameParity f) (frameKindCode f) (frameSpare f) (frameId f) (framePayload f) = f := by
  apply BitVec.eq_of_getLsbD_eq
  intro j hj
  interval_cases j <;> simp [frameOf, frameParity, frameKindCode, frameSpare, frameId, framePayload]

end Sys2Proof
end

