-- ==== Sys2Proof/Laws/State.lean ====
section
/-!
SUPPORT. One lemma per field for every operation that is a plain update of the state, true by definition, so that no proof
unfolds a record update.
-/

namespace Sys2Proof.Machine

/-! ### the clock sample -/

@[simp] theorem State.sample_state (s : State) (n : Nat) : (s.sample n).state = s.state := rfl
@[simp] theorem State.sample_response (s : State) (n : Nat) : (s.sample n).response = s.response := rfl
@[simp] theorem State.sample_outcome (s : State) (n : Nat) : (s.sample n).outcome = s.outcome := rfl
@[simp] theorem State.sample_ts (s : State) (n : Nat) : (s.sample n).ts = s.ts := rfl
@[simp] theorem State.sample_bitcount (s : State) (n : Nat) : (s.sample n).bitcount = s.bitcount := rfl
@[simp] theorem State.sample_edgeEn (s : State) (n : Nat) : (s.sample n).edgeEn = s.edgeEn := rfl
@[simp] theorem State.sample_shut (s : State) (n : Nat) : (s.sample n).shut = s.shut := rfl
@[simp] theorem State.sample_txLine (s : State) (n : Nat) : (s.sample n).txLine = s.txLine := rfl
@[simp] theorem State.sample_txFrame (s : State) (n : Nat) : (s.sample n).txFrame = s.txFrame := rfl
@[simp] theorem State.sample_txH (s : State) (n : Nat) : (s.sample n).txH = s.txH := rfl
@[simp] theorem State.sample_port (s : State) (n : Nat) : (s.sample n).port = s.port := rfl
@[simp] theorem State.sample_waitAfterTx (s : State) (n : Nat) : (s.sample n).waitAfterTx = s.waitAfterTx := rfl
@[simp] theorem State.sample_tickSnap (s : State) (n : Nat) : (s.sample n).tickSnap = s.tickSnap := rfl
@[simp] theorem State.sample_holdUntil (s : State) (n : Nat) : (s.sample n).holdUntil = s.holdUntil := rfl
@[simp] theorem State.sample_now (s : State) (n : Nat) : (s.sample n).now = n := rfl
@[simp] theorem State.sample_inputs (s : State) (n : Nat) : (s.sample n).inputs = s.inputs := rfl
@[simp] theorem State.sample_doneLog (s : State) (n : Nat) : (s.sample n).doneLog = s.doneLog := rfl
@[simp] theorem State.sample_resultLog (s : State) (n : Nat) : (s.sample n).resultLog = s.resultLog := rfl
@[simp] theorem State.sample_mark (s : State) (n : Nat) : (s.sample n).mark = s.mark := rfl
@[simp] theorem State.sample_cfg (s : State) (n : Nat) : (s.sample n).cfg = s.cfg := rfl

/-! ### `drive` -/

@[simp] theorem State.drive_state (s : State) (l : Level) : (s.drive l).state = s.state := rfl
@[simp] theorem State.drive_response (s : State) (l : Level) : (s.drive l).response = s.response := rfl
@[simp] theorem State.drive_outcome (s : State) (l : Level) : (s.drive l).outcome = s.outcome := rfl
@[simp] theorem State.drive_ts (s : State) (l : Level) : (s.drive l).ts = s.ts := rfl
@[simp] theorem State.drive_bitcount (s : State) (l : Level) : (s.drive l).bitcount = s.bitcount := rfl
@[simp] theorem State.drive_edgeEn (s : State) (l : Level) : (s.drive l).edgeEn = s.edgeEn := rfl
@[simp] theorem State.drive_shut (s : State) (l : Level) : (s.drive l).shut = s.shut := rfl
@[simp] theorem State.drive_txLine (s : State) (l : Level) : (s.drive l).txLine = TxLine.ofLevel l := rfl
@[simp] theorem State.drive_txFrame (s : State) (l : Level) : (s.drive l).txFrame = s.txFrame := rfl
@[simp] theorem State.drive_txH (s : State) (l : Level) : (s.drive l).txH = s.txH := rfl
@[simp] theorem State.drive_port (s : State) (l : Level) : (s.drive l).port = s.port := rfl
@[simp] theorem State.drive_waitAfterTx (s : State) (l : Level) : (s.drive l).waitAfterTx = s.waitAfterTx := rfl
@[simp] theorem State.drive_tickSnap (s : State) (l : Level) : (s.drive l).tickSnap = s.tickSnap := rfl
@[simp] theorem State.drive_holdUntil (s : State) (l : Level) : (s.drive l).holdUntil = s.holdUntil := rfl
@[simp] theorem State.drive_now (s : State) (l : Level) : (s.drive l).now = s.now := rfl
@[simp] theorem State.drive_inputs (s : State) (l : Level) : (s.drive l).inputs = s.inputs := rfl
@[simp] theorem State.drive_doneLog (s : State) (l : Level) : (s.drive l).doneLog = s.doneLog := rfl
@[simp] theorem State.drive_resultLog (s : State) (l : Level) : (s.drive l).resultLog = s.resultLog := rfl
@[simp] theorem State.drive_mark (s : State) (l : Level) : (s.drive l).mark = s.mark := rfl
@[simp] theorem State.drive_cfg (s : State) (l : Level) : (s.drive l).cfg = s.cfg := rfl

/-! ### `hold` -/

@[simp] theorem State.hold_state (s : State) (d : Nat) : (s.hold d).state = s.state := rfl
@[simp] theorem State.hold_response (s : State) (d : Nat) : (s.hold d).response = s.response := rfl
@[simp] theorem State.hold_outcome (s : State) (d : Nat) : (s.hold d).outcome = s.outcome := rfl
@[simp] theorem State.hold_ts (s : State) (d : Nat) : (s.hold d).ts = s.ts := rfl
@[simp] theorem State.hold_bitcount (s : State) (d : Nat) : (s.hold d).bitcount = s.bitcount := rfl
@[simp] theorem State.hold_edgeEn (s : State) (d : Nat) : (s.hold d).edgeEn = s.edgeEn := rfl
@[simp] theorem State.hold_shut (s : State) (d : Nat) : (s.hold d).shut = s.shut := rfl
@[simp] theorem State.hold_txLine (s : State) (d : Nat) : (s.hold d).txLine = s.txLine := rfl
@[simp] theorem State.hold_txFrame (s : State) (d : Nat) : (s.hold d).txFrame = s.txFrame := rfl
@[simp] theorem State.hold_txH (s : State) (d : Nat) : (s.hold d).txH = s.txH := rfl
@[simp] theorem State.hold_port (s : State) (d : Nat) : (s.hold d).port = s.port := rfl
@[simp] theorem State.hold_waitAfterTx (s : State) (d : Nat) : (s.hold d).waitAfterTx = s.waitAfterTx := rfl
@[simp] theorem State.hold_tickSnap (s : State) (d : Nat) : (s.hold d).tickSnap = s.tickSnap := rfl
@[simp] theorem State.hold_holdUntil (s : State) (d : Nat) : (s.hold d).holdUntil = s.now + d := rfl
@[simp] theorem State.hold_now (s : State) (d : Nat) : (s.hold d).now = s.now := rfl
@[simp] theorem State.hold_inputs (s : State) (d : Nat) : (s.hold d).inputs = s.inputs := rfl
@[simp] theorem State.hold_doneLog (s : State) (d : Nat) : (s.hold d).doneLog = s.doneLog := rfl
@[simp] theorem State.hold_resultLog (s : State) (d : Nat) : (s.hold d).resultLog = s.resultLog := rfl
@[simp] theorem State.hold_mark (s : State) (d : Nat) : (s.hold d).mark = s.mark := rfl
@[simp] theorem State.hold_cfg (s : State) (d : Nat) : (s.hold d).cfg = s.cfg := rfl

/-! ### `return` -/

@[simp] theorem State.pushResult_state (s : State) (r : CommandResult) : (s.pushResult r).state = s.state := rfl
@[simp] theorem State.pushResult_response (s : State) (r : CommandResult) : (s.pushResult r).response = s.response := rfl
@[simp] theorem State.pushResult_outcome (s : State) (r : CommandResult) : (s.pushResult r).outcome = s.outcome := rfl
@[simp] theorem State.pushResult_ts (s : State) (r : CommandResult) : (s.pushResult r).ts = s.ts := rfl
@[simp] theorem State.pushResult_bitcount (s : State) (r : CommandResult) : (s.pushResult r).bitcount = s.bitcount := rfl
@[simp] theorem State.pushResult_edgeEn (s : State) (r : CommandResult) : (s.pushResult r).edgeEn = s.edgeEn := rfl
@[simp] theorem State.pushResult_shut (s : State) (r : CommandResult) : (s.pushResult r).shut = s.shut := rfl
@[simp] theorem State.pushResult_txLine (s : State) (r : CommandResult) : (s.pushResult r).txLine = s.txLine := rfl
@[simp] theorem State.pushResult_txFrame (s : State) (r : CommandResult) : (s.pushResult r).txFrame = s.txFrame := rfl
@[simp] theorem State.pushResult_txH (s : State) (r : CommandResult) : (s.pushResult r).txH = s.txH := rfl
@[simp] theorem State.pushResult_port (s : State) (r : CommandResult) : (s.pushResult r).port = s.port := rfl
@[simp] theorem State.pushResult_waitAfterTx (s : State) (r : CommandResult) : (s.pushResult r).waitAfterTx = s.waitAfterTx := rfl
@[simp] theorem State.pushResult_tickSnap (s : State) (r : CommandResult) : (s.pushResult r).tickSnap = s.tickSnap := rfl
@[simp] theorem State.pushResult_holdUntil (s : State) (r : CommandResult) : (s.pushResult r).holdUntil = s.holdUntil := rfl
@[simp] theorem State.pushResult_now (s : State) (r : CommandResult) : (s.pushResult r).now = s.now := rfl
@[simp] theorem State.pushResult_inputs (s : State) (r : CommandResult) : (s.pushResult r).inputs = s.inputs := rfl
@[simp] theorem State.pushResult_doneLog (s : State) (r : CommandResult) : (s.pushResult r).doneLog = s.doneLog := rfl
@[simp] theorem State.pushResult_resultLog (s : State) (r : CommandResult) : (s.pushResult r).resultLog = s.resultLog ++ [r] := rfl
@[simp] theorem State.pushResult_mark (s : State) (r : CommandResult) : (s.pushResult r).mark = s.mark := rfl
@[simp] theorem State.pushResult_cfg (s : State) (r : CommandResult) : (s.pushResult r).cfg = s.cfg := rfl

/-! ### `emit DONE` -/

@[simp] theorem State.emitDone_state (s : State) (f : Frame) (o : ExchangeOutcome) : (s.emitDone f o).state = s.state := rfl
@[simp] theorem State.emitDone_response (s : State) (f : Frame) (o : ExchangeOutcome) : (s.emitDone f o).response = s.response := rfl
@[simp] theorem State.emitDone_outcome (s : State) (f : Frame) (o : ExchangeOutcome) : (s.emitDone f o).outcome = s.outcome := rfl
@[simp] theorem State.emitDone_ts (s : State) (f : Frame) (o : ExchangeOutcome) : (s.emitDone f o).ts = s.ts := rfl
@[simp] theorem State.emitDone_bitcount (s : State) (f : Frame) (o : ExchangeOutcome) : (s.emitDone f o).bitcount = s.bitcount := rfl
@[simp] theorem State.emitDone_edgeEn (s : State) (f : Frame) (o : ExchangeOutcome) : (s.emitDone f o).edgeEn = s.edgeEn := rfl
@[simp] theorem State.emitDone_shut (s : State) (f : Frame) (o : ExchangeOutcome) : (s.emitDone f o).shut = s.shut := rfl
@[simp] theorem State.emitDone_txLine (s : State) (f : Frame) (o : ExchangeOutcome) : (s.emitDone f o).txLine = s.txLine := rfl
@[simp] theorem State.emitDone_txFrame (s : State) (f : Frame) (o : ExchangeOutcome) : (s.emitDone f o).txFrame = s.txFrame := rfl
@[simp] theorem State.emitDone_txH (s : State) (f : Frame) (o : ExchangeOutcome) : (s.emitDone f o).txH = s.txH := rfl
@[simp] theorem State.emitDone_port (s : State) (f : Frame) (o : ExchangeOutcome) : (s.emitDone f o).port = s.port := rfl
@[simp] theorem State.emitDone_waitAfterTx (s : State) (f : Frame) (o : ExchangeOutcome) : (s.emitDone f o).waitAfterTx = s.waitAfterTx := rfl
@[simp] theorem State.emitDone_tickSnap (s : State) (f : Frame) (o : ExchangeOutcome) : (s.emitDone f o).tickSnap = s.tickSnap := rfl
@[simp] theorem State.emitDone_holdUntil (s : State) (f : Frame) (o : ExchangeOutcome) : (s.emitDone f o).holdUntil = s.holdUntil := rfl
@[simp] theorem State.emitDone_now (s : State) (f : Frame) (o : ExchangeOutcome) : (s.emitDone f o).now = s.now := rfl
@[simp] theorem State.emitDone_inputs (s : State) (f : Frame) (o : ExchangeOutcome) : (s.emitDone f o).inputs = s.inputs := rfl
@[simp] theorem State.emitDone_doneLog (s : State) (f : Frame) (o : ExchangeOutcome) : (s.emitDone f o).doneLog = s.doneLog ++ [{ frame := f, outcome := o, time := s.now }] := rfl
@[simp] theorem State.emitDone_resultLog (s : State) (f : Frame) (o : ExchangeOutcome) : (s.emitDone f o).resultLog = s.resultLog := rfl
@[simp] theorem State.emitDone_mark (s : State) (f : Frame) (o : ExchangeOutcome) : (s.emitDone f o).mark = s.mark := rfl
@[simp] theorem State.emitDone_cfg (s : State) (f : Frame) (o : ExchangeOutcome) : (s.emitDone f o).cfg = s.cfg := rfl

/-! ### `refuse` -/

@[simp] theorem State.refuse_state (s : State) (r : RefusalReason) : (s.refuse r).state = s.state := rfl
@[simp] theorem State.refuse_response (s : State) (r : RefusalReason) : (s.refuse r).response = s.response := rfl
@[simp] theorem State.refuse_outcome (s : State) (r : RefusalReason) : (s.refuse r).outcome = s.outcome := rfl
@[simp] theorem State.refuse_ts (s : State) (r : RefusalReason) : (s.refuse r).ts = s.ts := rfl
@[simp] theorem State.refuse_bitcount (s : State) (r : RefusalReason) : (s.refuse r).bitcount = s.bitcount := rfl
@[simp] theorem State.refuse_edgeEn (s : State) (r : RefusalReason) : (s.refuse r).edgeEn = s.edgeEn := rfl
@[simp] theorem State.refuse_shut (s : State) (r : RefusalReason) : (s.refuse r).shut = s.shut := rfl
@[simp] theorem State.refuse_txLine (s : State) (r : RefusalReason) : (s.refuse r).txLine = s.txLine := rfl
@[simp] theorem State.refuse_txFrame (s : State) (r : RefusalReason) : (s.refuse r).txFrame = s.txFrame := rfl
@[simp] theorem State.refuse_txH (s : State) (r : RefusalReason) : (s.refuse r).txH = s.txH := rfl
@[simp] theorem State.refuse_port (s : State) (r : RefusalReason) : (s.refuse r).port = s.port := rfl
@[simp] theorem State.refuse_waitAfterTx (s : State) (r : RefusalReason) : (s.refuse r).waitAfterTx = s.waitAfterTx := rfl
@[simp] theorem State.refuse_tickSnap (s : State) (r : RefusalReason) : (s.refuse r).tickSnap = s.tickSnap := rfl
@[simp] theorem State.refuse_holdUntil (s : State) (r : RefusalReason) : (s.refuse r).holdUntil = s.holdUntil := rfl
@[simp] theorem State.refuse_now (s : State) (r : RefusalReason) : (s.refuse r).now = s.now := rfl
@[simp] theorem State.refuse_inputs (s : State) (r : RefusalReason) : (s.refuse r).inputs = s.inputs := rfl
@[simp] theorem State.refuse_doneLog (s : State) (r : RefusalReason) : (s.refuse r).doneLog = s.doneLog := rfl
@[simp] theorem State.refuse_resultLog (s : State) (r : RefusalReason) : (s.refuse r).resultLog = s.resultLog := rfl
@[simp] theorem State.refuse_cfg (s : State) (r : RefusalReason) : (s.refuse r).cfg = s.cfg := rfl

/-! ### a report -/

@[simp] theorem State.report_state (s : State) (o : ExchangeOutcome) (next : SessionState) : (s.report o next).state = next := rfl
@[simp] theorem State.report_response (s : State) (o : ExchangeOutcome) (next : SessionState) : (s.report o next).response = s.response := rfl
@[simp] theorem State.report_outcome (s : State) (o : ExchangeOutcome) (next : SessionState) : (s.report o next).outcome = o := rfl
@[simp] theorem State.report_ts (s : State) (o : ExchangeOutcome) (next : SessionState) : (s.report o next).ts = s.ts := rfl
@[simp] theorem State.report_bitcount (s : State) (o : ExchangeOutcome) (next : SessionState) : (s.report o next).bitcount = s.bitcount := rfl
@[simp] theorem State.report_edgeEn (s : State) (o : ExchangeOutcome) (next : SessionState) : (s.report o next).edgeEn = s.edgeEn := rfl
@[simp] theorem State.report_shut (s : State) (o : ExchangeOutcome) (next : SessionState) : (s.report o next).shut = s.shut := rfl
@[simp] theorem State.report_txLine (s : State) (o : ExchangeOutcome) (next : SessionState) : (s.report o next).txLine = s.txLine := rfl
@[simp] theorem State.report_txFrame (s : State) (o : ExchangeOutcome) (next : SessionState) : (s.report o next).txFrame = s.txFrame := rfl
@[simp] theorem State.report_txH (s : State) (o : ExchangeOutcome) (next : SessionState) : (s.report o next).txH = s.txH := rfl
@[simp] theorem State.report_port (s : State) (o : ExchangeOutcome) (next : SessionState) : (s.report o next).port = s.port := rfl
@[simp] theorem State.report_waitAfterTx (s : State) (o : ExchangeOutcome) (next : SessionState) : (s.report o next).waitAfterTx = s.waitAfterTx := rfl
@[simp] theorem State.report_tickSnap (s : State) (o : ExchangeOutcome) (next : SessionState) : (s.report o next).tickSnap = s.tickSnap := rfl
@[simp] theorem State.report_holdUntil (s : State) (o : ExchangeOutcome) (next : SessionState) : (s.report o next).holdUntil = s.holdUntil := rfl
@[simp] theorem State.report_now (s : State) (o : ExchangeOutcome) (next : SessionState) : (s.report o next).now = s.now := rfl
@[simp] theorem State.report_inputs (s : State) (o : ExchangeOutcome) (next : SessionState) : (s.report o next).inputs = s.inputs := rfl
@[simp] theorem State.report_doneLog (s : State) (o : ExchangeOutcome) (next : SessionState) : (s.report o next).doneLog = s.doneLog ++ [{ frame := s.response, outcome := o, time := s.now }] := rfl
@[simp] theorem State.report_resultLog (s : State) (o : ExchangeOutcome) (next : SessionState) : (s.report o next).resultLog = s.resultLog := rfl
@[simp] theorem State.report_mark (s : State) (o : ExchangeOutcome) (next : SessionState) : (s.report o next).mark = s.mark := rfl
@[simp] theorem State.report_cfg (s : State) (o : ExchangeOutcome) (next : SessionState) : (s.report o next).cfg = s.cfg := rfl

/-! ### an accepted SEND -/

@[simp] theorem State.beginExchange_state (s : State) (f : Frame) (wait : Bool) : (s.beginExchange f wait).state = .sending := rfl
@[simp] theorem State.beginExchange_response (s : State) (f : Frame) (wait : Bool) : (s.beginExchange f wait).response = 0 := rfl
@[simp] theorem State.beginExchange_outcome (s : State) (f : Frame) (wait : Bool) : (s.beginExchange f wait).outcome = .none := rfl
@[simp] theorem State.beginExchange_ts (s : State) (f : Frame) (wait : Bool) : (s.beginExchange f wait).ts = s.ts := rfl
@[simp] theorem State.beginExchange_bitcount (s : State) (f : Frame) (wait : Bool) : (s.beginExchange f wait).bitcount = s.bitcount := rfl
@[simp] theorem State.beginExchange_edgeEn (s : State) (f : Frame) (wait : Bool) : (s.beginExchange f wait).edgeEn = s.edgeEn := rfl
@[simp] theorem State.beginExchange_shut (s : State) (f : Frame) (wait : Bool) : (s.beginExchange f wait).shut = s.shut := rfl
@[simp] theorem State.beginExchange_txLine (s : State) (f : Frame) (wait : Bool) : (s.beginExchange f wait).txLine = s.txLine := rfl
@[simp] theorem State.beginExchange_txFrame (s : State) (f : Frame) (wait : Bool) : (s.beginExchange f wait).txFrame = f := rfl
@[simp] theorem State.beginExchange_txH (s : State) (f : Frame) (wait : Bool) : (s.beginExchange f wait).txH = 0 := rfl
@[simp] theorem State.beginExchange_port (s : State) (f : Frame) (wait : Bool) : (s.beginExchange f wait).port = .tx := rfl
@[simp] theorem State.beginExchange_waitAfterTx (s : State) (f : Frame) (wait : Bool) : (s.beginExchange f wait).waitAfterTx = wait := rfl
@[simp] theorem State.beginExchange_tickSnap (s : State) (f : Frame) (wait : Bool) : (s.beginExchange f wait).tickSnap = s.tickSnap := rfl
@[simp] theorem State.beginExchange_holdUntil (s : State) (f : Frame) (wait : Bool) : (s.beginExchange f wait).holdUntil = s.now + 0 := rfl
@[simp] theorem State.beginExchange_now (s : State) (f : Frame) (wait : Bool) : (s.beginExchange f wait).now = s.now := rfl
@[simp] theorem State.beginExchange_inputs (s : State) (f : Frame) (wait : Bool) : (s.beginExchange f wait).inputs = s.inputs := rfl
@[simp] theorem State.beginExchange_doneLog (s : State) (f : Frame) (wait : Bool) : (s.beginExchange f wait).doneLog = s.doneLog := rfl
@[simp] theorem State.beginExchange_resultLog (s : State) (f : Frame) (wait : Bool) : (s.beginExchange f wait).resultLog = s.resultLog := rfl
@[simp] theorem State.beginExchange_mark (s : State) (f : Frame) (wait : Bool) : (s.beginExchange f wait).mark = s.mark := rfl
@[simp] theorem State.beginExchange_cfg (s : State) (f : Frame) (wait : Bool) : (s.beginExchange f wait).cfg = s.cfg := rfl

/-! ### START's first step -/

@[simp] theorem State.beginStart_state (s : State) : s.beginStart.state = s.state := rfl
@[simp] theorem State.beginStart_response (s : State) : s.beginStart.response = s.response := rfl
@[simp] theorem State.beginStart_outcome (s : State) : s.beginStart.outcome = s.outcome := rfl
@[simp] theorem State.beginStart_ts (s : State) : s.beginStart.ts = s.ts := rfl
@[simp] theorem State.beginStart_bitcount (s : State) : s.beginStart.bitcount = s.bitcount := rfl
@[simp] theorem State.beginStart_edgeEn (s : State) : s.beginStart.edgeEn = true := rfl
@[simp] theorem State.beginStart_shut (s : State) : s.beginStart.shut = s.shut := rfl
@[simp] theorem State.beginStart_txLine (s : State) : s.beginStart.txLine = .idle := rfl
@[simp] theorem State.beginStart_txFrame (s : State) : s.beginStart.txFrame = s.txFrame := rfl
@[simp] theorem State.beginStart_txH (s : State) : s.beginStart.txH = s.txH := rfl
@[simp] theorem State.beginStart_port (s : State) : s.beginStart.port = .wake := rfl
@[simp] theorem State.beginStart_waitAfterTx (s : State) : s.beginStart.waitAfterTx = s.waitAfterTx := rfl
@[simp] theorem State.beginStart_tickSnap (s : State) : s.beginStart.tickSnap = s.tickSnap := rfl
@[simp] theorem State.beginStart_holdUntil (s : State) : s.beginStart.holdUntil = s.now + tWake := rfl
@[simp] theorem State.beginStart_now (s : State) : s.beginStart.now = s.now := rfl
@[simp] theorem State.beginStart_inputs (s : State) : s.beginStart.inputs = s.inputs := rfl
@[simp] theorem State.beginStart_doneLog (s : State) : s.beginStart.doneLog = s.doneLog := rfl
@[simp] theorem State.beginStart_resultLog (s : State) : s.beginStart.resultLog = s.resultLog := rfl
@[simp] theorem State.beginStart_mark (s : State) : s.beginStart.mark = s.mark := rfl
@[simp] theorem State.beginStart_cfg (s : State) : s.beginStart.cfg = s.cfg := rfl

/-! ### START's completion -/

@[simp] theorem State.finishStart_state (s : State) : s.finishStart.state = .ready := rfl
@[simp] theorem State.finishStart_response (s : State) : s.finishStart.response = s.response := rfl
@[simp] theorem State.finishStart_outcome (s : State) : s.finishStart.outcome = s.outcome := rfl
@[simp] theorem State.finishStart_ts (s : State) : s.finishStart.ts = s.ts := rfl
@[simp] theorem State.finishStart_bitcount (s : State) : s.finishStart.bitcount = s.bitcount := rfl
@[simp] theorem State.finishStart_edgeEn (s : State) : s.finishStart.edgeEn = s.edgeEn := rfl
@[simp] theorem State.finishStart_shut (s : State) : s.finishStart.shut = s.shut := rfl
@[simp] theorem State.finishStart_txLine (s : State) : s.finishStart.txLine = s.txLine := rfl
@[simp] theorem State.finishStart_txFrame (s : State) : s.finishStart.txFrame = s.txFrame := rfl
@[simp] theorem State.finishStart_txH (s : State) : s.finishStart.txH = s.txH := rfl
@[simp] theorem State.finishStart_port (s : State) : s.finishStart.port = .free := rfl
@[simp] theorem State.finishStart_waitAfterTx (s : State) : s.finishStart.waitAfterTx = s.waitAfterTx := rfl
@[simp] theorem State.finishStart_tickSnap (s : State) : s.finishStart.tickSnap = s.tickSnap := rfl
@[simp] theorem State.finishStart_holdUntil (s : State) : s.finishStart.holdUntil = s.holdUntil := rfl
@[simp] theorem State.finishStart_now (s : State) : s.finishStart.now = s.now := rfl
@[simp] theorem State.finishStart_inputs (s : State) : s.finishStart.inputs = s.inputs := rfl
@[simp] theorem State.finishStart_doneLog (s : State) : s.finishStart.doneLog = s.doneLog := rfl
@[simp] theorem State.finishStart_resultLog (s : State) : s.finishStart.resultLog = s.resultLog := rfl
@[simp] theorem State.finishStart_mark (s : State) : s.finishStart.mark = s.mark := rfl
@[simp] theorem State.finishStart_cfg (s : State) : s.finishStart.cfg = s.cfg := rfl

/-! ### one half-bit -/

@[simp] theorem State.driveHalfBit_state (s : State) (f : Frame) : (s.driveHalfBit f).state = s.state := rfl
@[simp] theorem State.driveHalfBit_response (s : State) (f : Frame) : (s.driveHalfBit f).response = s.response := rfl
@[simp] theorem State.driveHalfBit_outcome (s : State) (f : Frame) : (s.driveHalfBit f).outcome = s.outcome := rfl
@[simp] theorem State.driveHalfBit_ts (s : State) (f : Frame) : (s.driveHalfBit f).ts = s.ts := rfl
@[simp] theorem State.driveHalfBit_bitcount (s : State) (f : Frame) : (s.driveHalfBit f).bitcount = s.bitcount := rfl
@[simp] theorem State.driveHalfBit_edgeEn (s : State) (f : Frame) : (s.driveHalfBit f).edgeEn = s.edgeEn := rfl
@[simp] theorem State.driveHalfBit_shut (s : State) (f : Frame) : (s.driveHalfBit f).shut = s.shut := rfl
@[simp] theorem State.driveHalfBit_txLine (s : State) (f : Frame) : (s.driveHalfBit f).txLine = TxLine.ofLevel (halfBit f s.txH.toNat) := rfl
@[simp] theorem State.driveHalfBit_txFrame (s : State) (f : Frame) : (s.driveHalfBit f).txFrame = s.txFrame := rfl
@[simp] theorem State.driveHalfBit_txH (s : State) (f : Frame) : (s.driveHalfBit f).txH = s.txH + 1 := rfl
@[simp] theorem State.driveHalfBit_port (s : State) (f : Frame) : (s.driveHalfBit f).port = s.port := rfl
@[simp] theorem State.driveHalfBit_waitAfterTx (s : State) (f : Frame) : (s.driveHalfBit f).waitAfterTx = s.waitAfterTx := rfl
@[simp] theorem State.driveHalfBit_tickSnap (s : State) (f : Frame) : (s.driveHalfBit f).tickSnap = s.tickSnap := rfl
@[simp] theorem State.driveHalfBit_holdUntil (s : State) (f : Frame) : (s.driveHalfBit f).holdUntil = s.now + tHalf := rfl
@[simp] theorem State.driveHalfBit_now (s : State) (f : Frame) : (s.driveHalfBit f).now = s.now := rfl
@[simp] theorem State.driveHalfBit_inputs (s : State) (f : Frame) : (s.driveHalfBit f).inputs = s.inputs := rfl
@[simp] theorem State.driveHalfBit_doneLog (s : State) (f : Frame) : (s.driveHalfBit f).doneLog = s.doneLog := rfl
@[simp] theorem State.driveHalfBit_resultLog (s : State) (f : Frame) : (s.driveHalfBit f).resultLog = s.resultLog := rfl
@[simp] theorem State.driveHalfBit_mark (s : State) (f : Frame) : (s.driveHalfBit f).mark = s.mark := rfl
@[simp] theorem State.driveHalfBit_cfg (s : State) (f : Frame) : (s.driveHalfBit f).cfg = s.cfg := rfl

/-! ### a sampled data bit -/

@[simp] theorem State.dataEdge_state (s : State) (l : Level) : (s.dataEdge l).state = s.state := rfl
@[simp] theorem State.dataEdge_response (s : State) (l : Level) : (s.dataEdge l).response = s.response <<< 1 ||| (~~~ l.bit).setWidth 32 := rfl
@[simp] theorem State.dataEdge_outcome (s : State) (l : Level) : (s.dataEdge l).outcome = s.outcome := rfl
@[simp] theorem State.dataEdge_ts (s : State) (l : Level) : (s.dataEdge l).ts = s.now := rfl
@[simp] theorem State.dataEdge_bitcount (s : State) (l : Level) : (s.dataEdge l).bitcount = s.bitcount + 1 := rfl
@[simp] theorem State.dataEdge_edgeEn (s : State) (l : Level) : (s.dataEdge l).edgeEn = s.edgeEn := rfl
@[simp] theorem State.dataEdge_shut (s : State) (l : Level) : (s.dataEdge l).shut = s.shut := rfl
@[simp] theorem State.dataEdge_txLine (s : State) (l : Level) : (s.dataEdge l).txLine = s.txLine := rfl
@[simp] theorem State.dataEdge_txFrame (s : State) (l : Level) : (s.dataEdge l).txFrame = s.txFrame := rfl
@[simp] theorem State.dataEdge_txH (s : State) (l : Level) : (s.dataEdge l).txH = s.txH := rfl
@[simp] theorem State.dataEdge_port (s : State) (l : Level) : (s.dataEdge l).port = s.port := rfl
@[simp] theorem State.dataEdge_waitAfterTx (s : State) (l : Level) : (s.dataEdge l).waitAfterTx = s.waitAfterTx := rfl
@[simp] theorem State.dataEdge_tickSnap (s : State) (l : Level) : (s.dataEdge l).tickSnap = s.tickSnap := rfl
@[simp] theorem State.dataEdge_holdUntil (s : State) (l : Level) : (s.dataEdge l).holdUntil = s.holdUntil := rfl
@[simp] theorem State.dataEdge_now (s : State) (l : Level) : (s.dataEdge l).now = s.now := rfl
@[simp] theorem State.dataEdge_inputs (s : State) (l : Level) : (s.dataEdge l).inputs = s.inputs := rfl
@[simp] theorem State.dataEdge_doneLog (s : State) (l : Level) : (s.dataEdge l).doneLog = s.doneLog := rfl
@[simp] theorem State.dataEdge_resultLog (s : State) (l : Level) : (s.dataEdge l).resultLog = s.resultLog := rfl
@[simp] theorem State.dataEdge_mark (s : State) (l : Level) : (s.dataEdge l).mark = s.mark := rfl
@[simp] theorem State.dataEdge_cfg (s : State) (l : Level) : (s.dataEdge l).cfg = s.cfg := rfl

/-! ### a split tick's snapshot -/

@[simp] theorem State.snapshotTick_state (s : State) : s.snapshotTick.state = s.state := rfl
@[simp] theorem State.snapshotTick_response (s : State) : s.snapshotTick.response = s.response := rfl
@[simp] theorem State.snapshotTick_outcome (s : State) : s.snapshotTick.outcome = s.outcome := rfl
@[simp] theorem State.snapshotTick_ts (s : State) : s.snapshotTick.ts = s.ts := rfl
@[simp] theorem State.snapshotTick_bitcount (s : State) : s.snapshotTick.bitcount = s.bitcount := rfl
@[simp] theorem State.snapshotTick_edgeEn (s : State) : s.snapshotTick.edgeEn = s.edgeEn := rfl
@[simp] theorem State.snapshotTick_shut (s : State) : s.snapshotTick.shut = s.shut := rfl
@[simp] theorem State.snapshotTick_txLine (s : State) : s.snapshotTick.txLine = s.txLine := rfl
@[simp] theorem State.snapshotTick_txFrame (s : State) : s.snapshotTick.txFrame = s.txFrame := rfl
@[simp] theorem State.snapshotTick_txH (s : State) : s.snapshotTick.txH = s.txH := rfl
@[simp] theorem State.snapshotTick_port (s : State) : s.snapshotTick.port = s.port := rfl
@[simp] theorem State.snapshotTick_waitAfterTx (s : State) : s.snapshotTick.waitAfterTx = s.waitAfterTx := rfl
@[simp] theorem State.snapshotTick_tickSnap (s : State) : s.snapshotTick.tickSnap = some { state := s.state, elapsed := s.elapsed s.ts } := rfl
@[simp] theorem State.snapshotTick_holdUntil (s : State) : s.snapshotTick.holdUntil = s.now + 0 := rfl
@[simp] theorem State.snapshotTick_now (s : State) : s.snapshotTick.now = s.now := rfl
@[simp] theorem State.snapshotTick_inputs (s : State) : s.snapshotTick.inputs = s.inputs := rfl
@[simp] theorem State.snapshotTick_doneLog (s : State) : s.snapshotTick.doneLog = s.doneLog := rfl
@[simp] theorem State.snapshotTick_resultLog (s : State) : s.snapshotTick.resultLog = s.resultLog := rfl
@[simp] theorem State.snapshotTick_mark (s : State) : s.snapshotTick.mark = s.mark := rfl
@[simp] theorem State.snapshotTick_cfg (s : State) : s.snapshotTick.cfg = s.cfg := rfl

/-! ### edges put among the events to come -/

@[simp] theorem State.schedule_state (s : State) (q : List Event) : (s.schedule q).state = s.state := rfl
@[simp] theorem State.schedule_response (s : State) (q : List Event) : (s.schedule q).response = s.response := rfl
@[simp] theorem State.schedule_outcome (s : State) (q : List Event) : (s.schedule q).outcome = s.outcome := rfl
@[simp] theorem State.schedule_ts (s : State) (q : List Event) : (s.schedule q).ts = s.ts := rfl
@[simp] theorem State.schedule_bitcount (s : State) (q : List Event) : (s.schedule q).bitcount = s.bitcount := rfl
@[simp] theorem State.schedule_edgeEn (s : State) (q : List Event) : (s.schedule q).edgeEn = s.edgeEn := rfl
@[simp] theorem State.schedule_shut (s : State) (q : List Event) : (s.schedule q).shut = s.shut := rfl
@[simp] theorem State.schedule_txLine (s : State) (q : List Event) : (s.schedule q).txLine = s.txLine := rfl
@[simp] theorem State.schedule_txFrame (s : State) (q : List Event) : (s.schedule q).txFrame = s.txFrame := rfl
@[simp] theorem State.schedule_txH (s : State) (q : List Event) : (s.schedule q).txH = s.txH := rfl
@[simp] theorem State.schedule_port (s : State) (q : List Event) : (s.schedule q).port = s.port := rfl
@[simp] theorem State.schedule_waitAfterTx (s : State) (q : List Event) : (s.schedule q).waitAfterTx = s.waitAfterTx := rfl
@[simp] theorem State.schedule_tickSnap (s : State) (q : List Event) : (s.schedule q).tickSnap = s.tickSnap := rfl
@[simp] theorem State.schedule_holdUntil (s : State) (q : List Event) : (s.schedule q).holdUntil = s.holdUntil := rfl
@[simp] theorem State.schedule_now (s : State) (q : List Event) : (s.schedule q).now = s.now := rfl
@[simp] theorem State.schedule_inputs (s : State) (q : List Event) : (s.schedule q).inputs = q.foldl (fun p e => insertEvent e p) s.inputs := rfl
@[simp] theorem State.schedule_doneLog (s : State) (q : List Event) : (s.schedule q).doneLog = s.doneLog := rfl
@[simp] theorem State.schedule_resultLog (s : State) (q : List Event) : (s.schedule q).resultLog = s.resultLog := rfl
@[simp] theorem State.schedule_mark (s : State) (q : List Event) : (s.schedule q).mark = s.mark := rfl
@[simp] theorem State.schedule_cfg (s : State) (q : List Event) : (s.schedule q).cfg = s.cfg := rfl

/-! ### a frame on the line -/

@[simp] theorem State.receiveFrame_state (s : State) (f : Frame) : (s.receiveFrame f).state = s.state := rfl
@[simp] theorem State.receiveFrame_response (s : State) (f : Frame) : (s.receiveFrame f).response = s.response := rfl
@[simp] theorem State.receiveFrame_outcome (s : State) (f : Frame) : (s.receiveFrame f).outcome = s.outcome := rfl
@[simp] theorem State.receiveFrame_ts (s : State) (f : Frame) : (s.receiveFrame f).ts = s.ts := rfl
@[simp] theorem State.receiveFrame_bitcount (s : State) (f : Frame) : (s.receiveFrame f).bitcount = s.bitcount := rfl
@[simp] theorem State.receiveFrame_edgeEn (s : State) (f : Frame) : (s.receiveFrame f).edgeEn = s.edgeEn := rfl
@[simp] theorem State.receiveFrame_shut (s : State) (f : Frame) : (s.receiveFrame f).shut = s.shut := rfl
@[simp] theorem State.receiveFrame_txLine (s : State) (f : Frame) : (s.receiveFrame f).txLine = s.txLine := rfl
@[simp] theorem State.receiveFrame_txFrame (s : State) (f : Frame) : (s.receiveFrame f).txFrame = s.txFrame := rfl
@[simp] theorem State.receiveFrame_txH (s : State) (f : Frame) : (s.receiveFrame f).txH = s.txH := rfl
@[simp] theorem State.receiveFrame_port (s : State) (f : Frame) : (s.receiveFrame f).port = s.port := rfl
@[simp] theorem State.receiveFrame_waitAfterTx (s : State) (f : Frame) : (s.receiveFrame f).waitAfterTx = s.waitAfterTx := rfl
@[simp] theorem State.receiveFrame_tickSnap (s : State) (f : Frame) : (s.receiveFrame f).tickSnap = s.tickSnap := rfl
@[simp] theorem State.receiveFrame_holdUntil (s : State) (f : Frame) : (s.receiveFrame f).holdUntil = s.holdUntil := rfl
@[simp] theorem State.receiveFrame_now (s : State) (f : Frame) : (s.receiveFrame f).now = s.now := rfl
@[simp] theorem State.receiveFrame_inputs (s : State) (f : Frame) : (s.receiveFrame f).inputs = (nominalEdges f s.now).foldl (fun p e => insertEvent e p) s.inputs := rfl
@[simp] theorem State.receiveFrame_doneLog (s : State) (f : Frame) : (s.receiveFrame f).doneLog = s.doneLog := rfl
@[simp] theorem State.receiveFrame_resultLog (s : State) (f : Frame) : (s.receiveFrame f).resultLog = s.resultLog := rfl
@[simp] theorem State.receiveFrame_mark (s : State) (f : Frame) : (s.receiveFrame f).mark = s.mark := rfl
@[simp] theorem State.receiveFrame_cfg (s : State) (f : Frame) : (s.receiveFrame f).cfg = s.cfg := rfl

/-! ### The mark -/

/-- The first refusal is the mark. -/
theorem State.refuse_mark_first (s : State) (r : RefusalReason) (h : s.mark = none) : (s.refuse r).mark = some r := by
  simp [State.refuse, h]

/-- A mark is kept. -/
theorem State.refuse_mark_kept (s : State) (r first : RefusalReason) (h : s.mark = some first) :
    (s.refuse r).mark = some first := by
  simp [State.refuse, h]

/-! ### `elapsed` and the sampled clock read the clock alone -/

/-- `elapsed` reads the clock sample and the parameters alone. -/
theorem State.elapsed_congr {s t : State} (hn : s.now = t.now) (hc : s.cfg = t.cfg) (a : Nat) :
    s.elapsed a = t.elapsed a := by
  simp [State.elapsed, hn, hc]

/-- While the clock premise holds, `elapsed` is the true time since `a` (spec/20_memory.md R74). -/
theorem State.elapsed_eq_sub (s : State) (a : Nat) (ha : a ≤ s.now) (hn : s.now < 2 ^ s.cfg.clockWidth) :
    s.elapsed a = s.now - a := by
  unfold State.elapsed
  have h : ((s.now : Int) - (a : Int)) % ((2 ^ s.cfg.clockWidth : Nat) : Int) = (s.now : Int) - (a : Int) :=
    Int.emod_eq_of_lt (by omega) (by omega)
  rw [h]
  omega

/-- The clock input shows a `CLOCK_WIDTH`-bit number. -/
theorem State.clockInput_lt (s : State) (time : Nat) : s.clockInput time < 2 ^ s.cfg.clockWidth :=
  Nat.mod_lt _ (Nat.two_pow_pos _)

/-- A time that fits the clock is shown as it is. -/
theorem State.clockInput_of_lt (s : State) (time : Nat) (h : time < 2 ^ s.cfg.clockWidth) :
    s.clockInput time = time :=
  Nat.mod_eq_of_lt h

end Sys2Proof.Machine
end

