-- ==== Sys2Proof/Laws/Ops.lean ====
section
/-!
SUPPORT. For each shared operation that branches, one lemma that says everything it can do; proofs cite these and do not
unfold the operation.
-/

namespace Sys2Proof.Machine

/-- A session command is refused after STOP, and runs its body before. -/
theorem State.unlessShut_cases (s body : State) :
    (s.shut = true ∧ s.unlessShut body = s.refuse .engineStopped) ∨ (s.shut = false ∧ s.unlessShut body = body) := by
  cases h : s.shut <;> simp [State.unlessShut, h]

/-- What the policy of TICK can do (spec/43_session.md R186 to R191). -/
theorem State.tickPolicy_cases (s : State) (st : SessionState) (e : Nat) :
    ((¬ (st.eligible = true ∧ e > tTimeout) ∧ st ≠ .frameInvalid ∧ st ≠ .frameReady ∧
        ¬ (st = .quietPeriod ∧ e > tQuiet)) ∧ s.tickPolicy st e = s) ∨
    (st.eligible = true ∧ e > tTimeout ∧ s.tickPolicy st e = s.report .timeout .ready) ∨
    (st = .frameInvalid ∧ e ≤ tTimeout ∧ s.tickPolicy st e = s.report .invalid .quietPeriod) ∨
    (st = .frameReady ∧ e ≤ tTimeout ∧ s.tickPolicy st e =
      s.report (if validResponse s.response = true then .success else .invalid) .quietPeriod) ∨
    (st = .quietPeriod ∧ e > tQuiet ∧ s.tickPolicy st e = { s with state := .ready }) := by
  by_cases ht : e > tTimeout <;> by_cases hq : e > tQuiet <;> cases st <;>
    simp_all [State.tickPolicy, SessionState.eligible]

/-- What an edge can do, and when (spec/42_decoder.md R150 to R156). -/
theorem State.takeEdge_cases (s : State) (l : Level) :
    ((s.edgeEn = false ∨ (s.state ≠ .awaitingStart ∧ s.state ≠ .startReceived ∧ s.state ≠ .receiving) ∨
        (s.state = .receiving ∧ s.elapsed s.ts ≤ tSample)) ∧ s.takeEdge l = s) ∨
    (s.edgeEn = true ∧ s.state = .awaitingStart ∧ l = .active ∧
      s.takeEdge l = { s with ts := s.now, state := .startReceived }) ∨
    (s.edgeEn = true ∧ s.state = .awaitingStart ∧ l = .idle ∧
      s.takeEdge l = { s with ts := s.now, state := .frameInvalid }) ∨
    (s.edgeEn = true ∧ s.state = .startReceived ∧ (s.elapsed s.ts < tSample ∧ l = .idle) ∧
      s.takeEdge l = { s with state := .receiving, bitcount := 0, ts := s.now }) ∨
    (s.edgeEn = true ∧ s.state = .startReceived ∧ (tSample ≤ s.elapsed s.ts ∨ l = .active) ∧
      s.takeEdge l = { s with state := .frameInvalid, ts := s.now }) ∨
    (s.edgeEn = true ∧ s.state = .receiving ∧ (tSample < s.elapsed s.ts ∧ s.bitcount < 32#6) ∧
      s.takeEdge l = s.dataEdge l) ∨
    (s.edgeEn = true ∧ s.state = .receiving ∧
      (tSample < s.elapsed s.ts ∧ ¬ s.bitcount < 32#6 ∧ s.cfg.stopBitCheck = true ∧ l = .active) ∧
      s.takeEdge l = { s with state := .frameInvalid, ts := s.now }) ∨
    (s.edgeEn = true ∧ s.state = .receiving ∧
      (tSample < s.elapsed s.ts ∧ ¬ s.bitcount < 32#6 ∧ (s.cfg.stopBitCheck = false ∨ l = .idle)) ∧
      s.takeEdge l = { s with state := .frameReady, ts := s.now }) := by
  cases hen : s.edgeEn
  case false => simp [State.takeEdge, hen]
  case true =>
    cases hst : s.state
    case awaitingStart => cases l <;> simp [State.takeEdge, hen, hst, State.firstEdge]
    case startReceived =>
      by_cases ht : s.elapsed s.ts < tSample
      · cases l <;> simp [State.takeEdge, hen, hst, State.startBitEdge, ht]
      · simp [State.takeEdge, hen, hst, State.startBitEdge, ht, Nat.le_of_not_lt ht]
    case receiving =>
      by_cases ht : s.elapsed s.ts ≤ tSample
      · simp [State.takeEdge, hen, hst, State.receivingEdge, ht]
      · by_cases hb : s.bitcount < 32#6
        · simp [State.takeEdge, hen, hst, State.receivingEdge, ht, hb, Nat.lt_of_not_le ht]
        · cases hc : s.cfg.stopBitCheck <;> cases l <;>
            simp [State.takeEdge, hen, hst, State.receivingEdge, State.stopEdge, ht, hb, hc, Nat.lt_of_not_le ht]
    all_goals simp [State.takeEdge, hen, hst]

/-- The decoder writes its four registers and nothing else (spec/10_state.md R35, spec/42_decoder.md R157). -/
theorem State.takeEdge_frame (s : State) (l : Level) :
    s.takeEdge l = { s with state := (s.takeEdge l).state, response := (s.takeEdge l).response,
                            bitcount := (s.takeEdge l).bitcount, ts := (s.takeEdge l).ts } := by
  rcases s.takeEdge_cases l with ⟨-, h⟩ | ⟨-, -, -, h⟩ | ⟨-, -, -, h⟩ | ⟨-, -, -, h⟩ | ⟨-, -, -, h⟩ | ⟨-, -, -, h⟩ |
    ⟨-, -, -, h⟩ | ⟨-, -, -, h⟩ <;>
    simp [h, State.dataEdge]

/-- The policy of TICK writes `state`, `outcome` and the completion output, and nothing else (R35). -/
theorem State.tickPolicy_frame (s : State) (st : SessionState) (e : Nat) :
    s.tickPolicy st e = { s with state := (s.tickPolicy st e).state, outcome := (s.tickPolicy st e).outcome,
                                 doneLog := (s.tickPolicy st e).doneLog } := by
  rcases s.tickPolicy_cases st e with ⟨-, h⟩ | ⟨-, -, h⟩ | ⟨-, -, h⟩ | ⟨-, -, h⟩ | ⟨-, -, h⟩ <;> rw [h] <;> rfl

/-- What one step can do: it runs an instruction, moves, or is stuck (spec/20_memory.md R67). -/
theorem step_of_fetch (s : State) :
    (∃ i t, fetch s = .run i t ∧ step s = exec i t) ∨ (∃ t, fetch s = .moved t ∧ step s = .next t) ∨
    (∃ f, fetch s = .stuck f ∧ step s = .fault f) := by
  cases h : fetch s with
  | run i t => exact .inl ⟨i, t, rfl, by simp [step, h]⟩
  | moved t => exact .inr (.inl ⟨t, rfl, by simp [step, h]⟩)
  | stuck f => exact .inr (.inr ⟨f, rfl, by simp [step, h]⟩)

end Sys2Proof.Machine
end

