-- ==== Sys2Proof/Laws/PerInstr.lean ====
section
/-!
SUPPORT. The per-instruction family RowBits: the packet the encoder writes for an instruction comes on the input of the
instruction's row of spec/opcode_table.json, and its bits agree with the row's match under the row's mask.
-/

namespace Sys2Proof.Laws.RowBits

/-- A row of the opcode table: its format's input, its mask and its match. -/
inductive Row where
  | command64 (mask bits : BitVec 64)
  | internal64 (mask bits : BitVec 64)
  | edge64 (mask bits : BitVec 64)
  | frame32 (mask bits : BitVec 32)
  deriving DecidableEq, Repr

/-- The row of an instruction, copied from the table's `format`, `mask` and `match`. -/
def rowOf : Instr → Row
  | .parity _ => .command64 0xF800000000000000#64 0x0000000000000000#64
  | .buildRequest _ _ _ => .command64 0xF800000000000000#64 0x0800000000000000#64
  | .isValidResponse _ => .command64 0xF800000000000000#64 0x1000000000000000#64
  | .getKind _ => .command64 0xF800000000000000#64 0x1800000000000000#64
  | .getDataId _ => .command64 0xF800000000000000#64 0x2000000000000000#64
  | .getU16 _ => .command64 0xF800000000000000#64 0x2800000000000000#64
  | .getF88 _ => .command64 0xF800000000000000#64 0x3000000000000000#64
  | .tempToF88 _ => .command64 0xF800000000000000#64 0x3800000000000000#64
  | .isFault _ => .command64 0xF800000000000000#64 0x4000000000000000#64
  | .isChActive _ => .command64 0xF800000000000000#64 0x4800000000000000#64
  | .isDhwActive _ => .command64 0xF800000000000000#64 0x5000000000000000#64
  | .isFlameOn _ => .command64 0xF800000000000000#64 0x5800000000000000#64
  | .isCoolingActive _ => .command64 0xF800000000000000#64 0x6000000000000000#64
  | .isDiagnostic _ => .command64 0xF800000000000000#64 0x6800000000000000#64
  | .start => .command64 0xF800000000000000#64 0x8000000000000000#64
  | .stop => .command64 0xF800000000000000#64 0x8800000000000000#64
  | .send _ => .command64 0xF800000000000000#64 0x9000000000000000#64
  | .sendAndWait _ => .command64 0xF800000000000000#64 0x9800000000000000#64
  | .tick => .command64 0xF800000000000000#64 0xA000000000000000#64
  | .readStatus => .command64 0xF800000000000000#64 0xA800000000000000#64
  | .transmit _ => .internal64 0xF800000000000000#64 0xC000000000000000#64
  | .edge _ => .edge64 0xF800000000000000#64 0xC800000000000000#64
  | .reserved01110 => .command64 0xF800000000000000#64 0x7000000000000000#64
  | .reserved01111 => .command64 0xF800000000000000#64 0x7800000000000000#64
  | .reserved10110 => .command64 0xF800000000000000#64 0xB000000000000000#64
  | .reserved10111 => .command64 0xF800000000000000#64 0xB800000000000000#64
  | .reserved11xxx _ => .command64 0xC000000000000000#64 0xC000000000000000#64
  | .frameReadData _ _ _ _ => .frame32 0x70000000#32 0x00000000#32
  | .frameWriteData _ _ _ _ => .frame32 0x70000000#32 0x10000000#32
  | .frameInvalidData _ _ _ _ => .frame32 0x70000000#32 0x20000000#32
  | .frameReserved _ _ _ _ => .frame32 0x70000000#32 0x30000000#32
  | .frameReadAck _ _ _ _ => .frame32 0x70000000#32 0x40000000#32
  | .frameWriteAck _ _ _ _ => .frame32 0x70000000#32 0x50000000#32
  | .frameDataInvalid _ _ _ _ => .frame32 0x70000000#32 0x60000000#32
  | .frameUnknownDataId _ _ _ _ => .frame32 0x70000000#32 0x70000000#32

/-- Does a packet come on a row's input and agree with its bits? -/
def fits : Packet → Row → Prop
  | .command w _, .command64 mask bits => w &&& mask = bits
  | .internal w, .internal64 mask bits => w &&& mask = bits
  | .edge w, .edge64 mask bits => w &&& mask = bits
  | .line f, .frame32 mask bits => f &&& mask = bits
  | _, _ => False

/-- The encoder writes the row's bits. -/
def Statement (i : Instr) : Prop := fits (encode i) (rowOf i)

/-- The code of a command word is its bits 63:59. -/
theorem commandWord_and_opMask (op : BitVec 5) (k : BitVec 3) (id : BitVec 8) (v : BitVec 16) (f : Frame) :
    commandWord op k id v f &&& 0xF800000000000000#64 = op.setWidth 64 <<< 59 := by
  apply BitVec.eq_of_getLsbD_eq
  intro j hj
  interval_cases j <;> simp [commandWord]

/-- The top two bits of a command word are the top two of its code. -/
theorem commandWord_and_topMask (op : BitVec 5) (k : BitVec 3) (id : BitVec 8) (v : BitVec 16) (f : Frame) :
    commandWord op k id v f &&& 0xC000000000000000#64 = (op.extractLsb' 3 2).setWidth 64 <<< 62 := by
  apply BitVec.eq_of_getLsbD_eq
  intro j hj
  interval_cases j <;> simp [commandWord]

/-- The kind of a frame is its bits 30:28. -/
theorem frameOf_and_kindMask (p : BitVec 1) (k : BitVec 3) (sp : BitVec 4) (id : BitVec 8) (v : BitVec 16) :
    frameOf p k sp id v &&& 0x70000000#32 = k.setWidth 32 <<< 28 := by
  apply BitVec.eq_of_getLsbD_eq
  intro j hj
  interval_cases j <;> simp [frameOf]

theorem parity (f : Frame) : Statement (.parity f) :=
  (commandWord_and_opMask _ _ _ _ _).trans (by decide)

theorem buildRequest (k : MessageKind) (id : BitVec 8) (v : BitVec 16) : Statement (.buildRequest k id v) :=
  (commandWord_and_opMask _ _ _ _ _).trans (by decide)

theorem isValidResponse (f : Frame) : Statement (.isValidResponse f) :=
  (commandWord_and_opMask _ _ _ _ _).trans (by decide)

theorem getKind (f : Frame) : Statement (.getKind f) :=
  (commandWord_and_opMask _ _ _ _ _).trans (by decide)

theorem getDataId (f : Frame) : Statement (.getDataId f) :=
  (commandWord_and_opMask _ _ _ _ _).trans (by decide)

theorem getU16 (f : Frame) : Statement (.getU16 f) :=
  (commandWord_and_opMask _ _ _ _ _).trans (by decide)

theorem getF88 (f : Frame) : Statement (.getF88 f) :=
  (commandWord_and_opMask _ _ _ _ _).trans (by decide)

theorem tempToF88 (x : Value) : Statement (.tempToF88 x) :=
  (commandWord_and_opMask _ _ _ _ _).trans (by decide)

theorem isFault (f : Frame) : Statement (.isFault f) :=
  (commandWord_and_opMask _ _ _ _ _).trans (by decide)

theorem isChActive (f : Frame) : Statement (.isChActive f) :=
  (commandWord_and_opMask _ _ _ _ _).trans (by decide)

theorem isDhwActive (f : Frame) : Statement (.isDhwActive f) :=
  (commandWord_and_opMask _ _ _ _ _).trans (by decide)

theorem isFlameOn (f : Frame) : Statement (.isFlameOn f) :=
  (commandWord_and_opMask _ _ _ _ _).trans (by decide)

theorem isCoolingActive (f : Frame) : Statement (.isCoolingActive f) :=
  (commandWord_and_opMask _ _ _ _ _).trans (by decide)

theorem isDiagnostic (f : Frame) : Statement (.isDiagnostic f) :=
  (commandWord_and_opMask _ _ _ _ _).trans (by decide)

theorem start : Statement .start :=
  (commandWord_and_opMask _ _ _ _ _).trans (by decide)

theorem stop : Statement .stop :=
  (commandWord_and_opMask _ _ _ _ _).trans (by decide)

theorem send (f : Frame) : Statement (.send f) :=
  (commandWord_and_opMask _ _ _ _ _).trans (by decide)

theorem sendAndWait (f : Frame) : Statement (.sendAndWait f) :=
  (commandWord_and_opMask _ _ _ _ _).trans (by decide)

theorem tick : Statement .tick :=
  (commandWord_and_opMask _ _ _ _ _).trans (by decide)

theorem readStatus : Statement .readStatus :=
  (commandWord_and_opMask _ _ _ _ _).trans (by decide)

theorem transmit (f : Frame) : Statement (.transmit f) :=
  (commandWord_and_opMask _ _ _ _ _).trans (by decide)

theorem edge (l : Level) : Statement (.edge l) :=
  (commandWord_and_opMask _ _ _ _ _).trans (by decide)

theorem reserved01110 : Statement .reserved01110 :=
  (commandWord_and_opMask _ _ _ _ _).trans (by decide)

theorem reserved01111 : Statement .reserved01111 :=
  (commandWord_and_opMask _ _ _ _ _).trans (by decide)

theorem reserved10110 : Statement .reserved10110 :=
  (commandWord_and_opMask _ _ _ _ _).trans (by decide)

theorem reserved10111 : Statement .reserved10111 :=
  (commandWord_and_opMask _ _ _ _ _).trans (by decide)

theorem reserved11xxx (low : BitVec 3) : Statement (.reserved11xxx low) :=
  (commandWord_and_topMask _ _ _ _ _).trans (by revert low; decide)

theorem frameReadData (p : BitVec 1) (sp : BitVec 4) (id : BitVec 8) (v : BitVec 16) : Statement (.frameReadData p sp id v) :=
  (frameOf_and_kindMask _ _ _ _ _).trans (by decide)

theorem frameWriteData (p : BitVec 1) (sp : BitVec 4) (id : BitVec 8) (v : BitVec 16) : Statement (.frameWriteData p sp id v) :=
  (frameOf_and_kindMask _ _ _ _ _).trans (by decide)

theorem frameInvalidData (p : BitVec 1) (sp : BitVec 4) (id : BitVec 8) (v : BitVec 16) : Statement (.frameInvalidData p sp id v) :=
  (frameOf_and_kindMask _ _ _ _ _).trans (by decide)

theorem frameReserved (p : BitVec 1) (sp : BitVec 4) (id : BitVec 8) (v : BitVec 16) : Statement (.frameReserved p sp id v) :=
  (frameOf_and_kindMask _ _ _ _ _).trans (by decide)

theorem frameReadAck (p : BitVec 1) (sp : BitVec 4) (id : BitVec 8) (v : BitVec 16) : Statement (.frameReadAck p sp id v) :=
  (frameOf_and_kindMask _ _ _ _ _).trans (by decide)

theorem frameWriteAck (p : BitVec 1) (sp : BitVec 4) (id : BitVec 8) (v : BitVec 16) : Statement (.frameWriteAck p sp id v) :=
  (frameOf_and_kindMask _ _ _ _ _).trans (by decide)

theorem frameDataInvalid (p : BitVec 1) (sp : BitVec 4) (id : BitVec 8) (v : BitVec 16) : Statement (.frameDataInvalid p sp id v) :=
  (frameOf_and_kindMask _ _ _ _ _).trans (by decide)

theorem frameUnknownDataId (p : BitVec 1) (sp : BitVec 4) (id : BitVec 8) (v : BitVec 16) : Statement (.frameUnknownDataId p sp id v) :=
  (frameOf_and_kindMask _ _ _ _ _).trans (by decide)

end Sys2Proof.Laws.RowBits
end

