-- ==== Sys2Proof/Laws/Run.lean ====
section
/-!
SUPPORT. Small lemmas of a run's end and of the run to it.
-/

namespace Sys2Proof.Machine

/-- At an end the polling agent is free. -/
theorem State.busy_of_runEnded {s : State} (h : s.runEnded = true) : s.busy = false := by
  simp [State.runEnded] at h
  exact h.1

/-- At an end nothing that a program lists is to come. -/
theorem State.not_listed_of_runEnded {s : State} (h : s.runEnded = true) {e : Event} (he : e ∈ s.inputs) :
    e.input.listed = false := by
  simp [State.runEnded] at h
  exact h.2 e he

/-- A run that has ended takes no step. -/
theorem runToEnd_of_ended (n : Nat) {s : State} (h : s.runEnded = true) : runToEnd n s = some (.next s.endState) := by
  cases n <;> simp [runToEnd, h]

/-- A run that has not ended goes on with a step. -/
theorem runToEnd_of_step (n : Nat) {s t : State} (h : s.runEnded = false) (hs : step s = .next t) :
    runToEnd (n + 1) s = runToEnd n t := by
  simp [runToEnd, h, hs]

/-- With no step left, only an end is an end. -/
theorem runToEnd_zero {s : State} (h : s.runEnded = false) : runToEnd 0 s = none := by
  simp [runToEnd, h]

/-- What the end state holds does not depend on the clock sample or on the events to come. -/
@[simp] theorem State.endState_sample (s : State) (n : Nat) : (s.sample n).endState = s.endState := rfl
@[simp] theorem State.endState_inputs (s : State) (q : List Event) : ({ s with inputs := q } : State).endState = s.endState := rfl

end Sys2Proof.Machine
end

