-- ==== Sys2Proof/Machine/Text.lean ====
section
/-!
DEFINITION. The text syntax of commands and events (spec/30_encoding.md R96), as a printer. It is notation alone: no step
reads it.
-/

namespace Sys2Proof.Machine

/-- A hexadecimal digit. -/
def hexDigit (n : Nat) : Char := if n < 10 then Char.ofNat (48 + n) else Char.ofNat (55 + n)

/-- The last `digits` hexadecimal digits of a number, before `rest`. -/
def hexChars : Nat → Nat → List Char → List Char
  | 0, _, rest => rest
  | digits + 1, n, rest => hexChars digits (n / 16) (hexDigit (n % 16) :: rest)

/-- A number as `0x` hexadecimal. -/
def hexText (digits n : Nat) : String := "0x" ++ String.ofList (hexChars digits n [])

/-- A frame as text. -/
def frameText (f : Frame) : String := hexText 8 f.toNat

/-- A kind operand by name (R82, R96). -/
def kindText : MessageKind → String
  | .readData      => "READ_DATA"
  | .writeData     => "WRITE_DATA"
  | .invalidData   => "INVALID_DATA"
  | .reserved      => "RESERVED"
  | .readAck       => "READ_ACK"
  | .writeAck      => "WRITE_ACK"
  | .dataInvalid   => "DATA_INVALID"
  | .unknownDataId => "UNKNOWN_DATA_ID"

/-- A value operand as a ratio (R96). -/
def valueText : Value → String
  | .ratio num den => toString num ++ "/" ++ toString den
  | .nan           => "NaN"
  | .posInfinity   => "+inf"
  | .negInfinity   => "-inf"

/-- An edge's level (R96). -/
def levelText : Level → String
  | .idle   => "I"
  | .active => "A"

/-- A frame on the line, `EDGES <frame>` (R96). -/
def edgesText (p : BitVec 1) (k : MessageKind) (s : BitVec 4) (id : BitVec 8) (v : BitVec 16) : String :=
  "EDGES " ++ frameText (frameOf p k.code s id v)

/-- An instruction as text: the mnemonic and the operands in the order of R91. -/
def instrText : Instr → String
  | .parity f => "PARITY " ++ frameText f
  | .buildRequest k id v =>
    "BUILD_REQUEST " ++ kindText k ++ ", " ++ toString id.toNat ++ ", " ++ hexText 4 v.toNat
  | .isValidResponse f => "IS_VALID_RESPONSE " ++ frameText f
  | .getKind f => "GET_KIND " ++ frameText f
  | .getDataId f => "GET_DATA_ID " ++ frameText f
  | .getU16 f => "GET_U16 " ++ frameText f
  | .getF88 f => "GET_F88 " ++ frameText f
  | .tempToF88 x => "TEMP_TO_F88 " ++ valueText x
  | .isFault f => "IS_FAULT " ++ frameText f
  | .isChActive f => "IS_CH_ACTIVE " ++ frameText f
  | .isDhwActive f => "IS_DHW_ACTIVE " ++ frameText f
  | .isFlameOn f => "IS_FLAME_ON " ++ frameText f
  | .isCoolingActive f => "IS_COOLING_ACTIVE " ++ frameText f
  | .isDiagnostic f => "IS_DIAGNOSTIC " ++ frameText f
  | .start => "START"
  | .stop => "STOP"
  | .send f => "SEND " ++ frameText f
  | .sendAndWait f => "SEND_AND_WAIT " ++ frameText f
  | .tick => "TICK"
  | .readStatus => "READ_STATUS"
  | .transmit f => "TRANSMIT " ++ frameText f
  | .edge l => "EDGE " ++ levelText l
  | .reserved01110 => "RESERVED_01110"
  | .reserved01111 => "RESERVED_01111"
  | .reserved10110 => "RESERVED_10110"
  | .reserved10111 => "RESERVED_10111"
  | .reserved11xxx low => "RESERVED_11xxx " ++ toString low.toNat
  | .frameReadData p s id v => edgesText p .readData s id v
  | .frameWriteData p s id v => edgesText p .writeData s id v
  | .frameInvalidData p s id v => edgesText p .invalidData s id v
  | .frameReserved p s id v => edgesText p .reserved s id v
  | .frameReadAck p s id v => edgesText p .readAck s id v
  | .frameWriteAck p s id v => edgesText p .writeAck s id v
  | .frameDataInvalid p s id v => edgesText p .dataInvalid s id v
  | .frameUnknownDataId p s id v => edgesText p .unknownDataId s id v

/-- An instruction with the clock value its step samples, `… @t` (R96). -/
def instrTextAt (i : Instr) (time : Nat) : String := instrText i ++ " @" ++ toString time

end Sys2Proof.Machine
end

