-- ==== Sys2Proof/Tests/Slice0.lean ====
section
/-!
SUPPORT. Tests: expected values are those of spec/95_test_vectors.md and of the rules' own examples. Then one witness for the
hypotheses of each statement that has some.
-/

namespace Sys2Proof.Tests
open Sys2Proof Sys2Proof.Machine Sys2Proof.Stated

/-! ### Helpers -/

/-- The next state of an outcome. -/
def nextOf : Host.Outcome State Fault Refusal → Option State
  | .next s => some s
  | .fault _ => none
  | .refused _ => none

/-- The fault of an outcome. -/
def faultOf : Host.Outcome State Fault Refusal → Option Fault
  | .next _ => none
  | .fault f => some f
  | .refused _ => none

/-- The results after one instruction. -/
def resultsOf (o : Host.Outcome State Fault Refusal) : Option (List CommandResult) := (nextOf o).map State.resultLog

/-- A snapshot `(state, outcome, response, ts, bitcount)` of spec/95_test_vectors.md, `edge_en` 1 and `shut` 0, with the clock
sample `now`. -/
def snap (st : SessionState) (o : ExchangeOutcome) (r : Frame) (ts : Nat) (n : BitVec 6) (now : Nat) : State :=
  { State.reset with state := st, outcome := o, response := r, ts := ts, bitcount := n, now := now, edgeEn := true, txLine := .idle }

/-- A snapshot as data. -/
structure Snapshot where
  state    : SessionState
  outcome  : ExchangeOutcome
  response : Frame
  ts       : Nat
  bitcount : BitVec 6
  deriving DecidableEq, Repr

/-- The snapshot that a state shows. -/
def shown (s : State) : Snapshot := ⟨s.state, s.outcome, s.response, s.ts, s.bitcount⟩

/-- A state with one event to come. -/
def coming (s : State) (time : Nat) (i : Input) : State := { s with inputs := [{ time := time, input := i }] }

/-! ### Well-formedness -/

theorem test_wf_refuses_zero_denominator : Instr.wf (.tempToF88 (.ratio 1 0)) = false := by decide
theorem test_wf_accepts_ratio : Instr.wf (.tempToF88 (.ratio (-1) 3)) = true := by decide

/-! ### Decoding: words written out from R90, R91 and R81, or copied from the programs of spec/95_test_vectors.md §3 -/

theorem test_decode_parity : decode (.command 0x0000000010013740#64 (.ratio 0 1)) = .ok (.parity 0x10013740#32) := by decide
theorem test_decode_build_request :
    decode (.command 0x0901374000000000#64 (.ratio 0 1)) = .ok (.buildRequest .writeData 1#8 0x3740#16) := by decide
theorem test_decode_is_valid_response :
    decode (.command 0x10000000D0013740#64 (.ratio 0 1)) = .ok (.isValidResponse 0xD0013740#32) := by decide
theorem test_decode_get_kind : decode (.command 0x1800000010013740#64 (.ratio 0 1)) = .ok (.getKind 0x10013740#32) := by decide
theorem test_decode_get_data_id : decode (.command 0x2000000010013740#64 (.ratio 0 1)) = .ok (.getDataId 0x10013740#32) := by
  decide
theorem test_decode_get_u16 : decode (.command 0x2800000040192A80#64 (.ratio 0 1)) = .ok (.getU16 0x40192A80#32) := by decide
theorem test_decode_get_f88 : decode (.command 0x3000000040192A80#64 (.ratio 0 1)) = .ok (.getF88 0x40192A80#32) := by decide
theorem test_decode_temp_to_f88 :
    decode (.command 0x3800000000000000#64 (.ratio 221 4)) = .ok (.tempToF88 (.ratio 221 4)) := by decide
theorem test_decode_is_fault : decode (.command 0x40000000C0000003#64 (.ratio 0 1)) = .ok (.isFault 0xC0000003#32) := by decide
theorem test_decode_is_ch_active :
    decode (.command 0x48000000C0000003#64 (.ratio 0 1)) = .ok (.isChActive 0xC0000003#32) := by decide
theorem test_decode_is_dhw_active :
    decode (.command 0x50000000C0000003#64 (.ratio 0 1)) = .ok (.isDhwActive 0xC0000003#32) := by decide
theorem test_decode_is_flame_on :
    decode (.command 0x58000000C000000A#64 (.ratio 0 1)) = .ok (.isFlameOn 0xC000000A#32) := by decide
theorem test_decode_is_cooling_active :
    decode (.command 0x6000000040000010#64 (.ratio 0 1)) = .ok (.isCoolingActive 0x40000010#32) := by decide
theorem test_decode_is_diagnostic :
    decode (.command 0x6800000040000040#64 (.ratio 0 1)) = .ok (.isDiagnostic 0x40000040#32) := by decide
theorem test_decode_start : decode (.command 0x8000000000000000#64 (.ratio 0 1)) = .ok .start := by decide
theorem test_decode_stop : decode (.command 0x8800000000000000#64 (.ratio 0 1)) = .ok .stop := by decide
theorem test_decode_send : decode (.command 0x9000000080190000#64 (.ratio 0 1)) = .ok (.send 0x80190000#32) := by decide
theorem test_decode_send_and_wait :
    decode (.command 0x9800000080190000#64 (.ratio 0 1)) = .ok (.sendAndWait 0x80190000#32) := by decide
theorem test_decode_tick : decode (.command 0xA000000000000000#64 (.ratio 0 1)) = .ok .tick := by decide
theorem test_decode_read_status : decode (.command 0xA800000000000000#64 (.ratio 0 1)) = .ok .readStatus := by decide
theorem test_decode_transmit : decode (.internal 0xC000000080190000#64) = .ok (.transmit 0x80190000#32) := by decide
theorem test_decode_edge_idle : decode (.edge 0xC800000000000000#64) = .ok (.edge .idle) := by decide
theorem test_decode_edge_active : decode (.edge 0xC800000000000001#64) = .ok (.edge .active) := by decide
theorem test_decode_reserved_01110 : decode (.command 0x7000000000000000#64 (.ratio 0 1)) = .ok .reserved01110 := by decide
theorem test_decode_reserved_01111 : decode (.command 0x7800000000000000#64 (.ratio 0 1)) = .ok .reserved01111 := by decide
theorem test_decode_reserved_10110 : decode (.command 0xB000000000000000#64 (.ratio 0 1)) = .ok .reserved10110 := by decide
theorem test_decode_reserved_10111 : decode (.command 0xB800000000000000#64 (.ratio 0 1)) = .ok .reserved10111 := by decide
/-- TRANSMIT's and EDGE's codes are reserved on the command port, as is 11111 (X3, X4, X5). -/
theorem test_decode_reserved_11xxx :
    decode (.command 0xC000000080190000#64 (.ratio 0 1)) = .ok (.reserved11xxx 0#3) ∧
    decode (.command 0xC800000000000001#64 (.ratio 0 1)) = .ok (.reserved11xxx 1#3) ∧
    decode (.command 0xF800000000000000#64 (.ratio 0 1)) = .ok (.reserved11xxx 7#3) := by decide
theorem test_decode_edge_input_takes_edge_only : decode (.edge 0x8000000000000000#64) = .error .notEdge := by decide
theorem test_decode_internal_takes_transmit_only : decode (.internal 0xC800000000000001#64) = .error .notTransmit := by decide
theorem test_decode_frame_read_data :
    decode (.line 0x80190000#32) = .ok (.frameReadData 1#1 0#4 25#8 0#16) := by decide
theorem test_decode_frame_write_data :
    decode (.line 0x10013740#32) = .ok (.frameWriteData 0#1 0#4 1#8 0x3740#16) := by decide
theorem test_decode_frame_invalid_data :
    decode (.line 0x2F010203#32) = .ok (.frameInvalidData 0#1 15#4 1#8 0x0203#16) := by decide
theorem test_decode_frame_reserved :
    decode (.line 0xB0010203#32) = .ok (.frameReserved 1#1 0#4 1#8 0x0203#16) := by decide
theorem test_decode_frame_read_ack :
    decode (.line 0x4F192A80#32) = .ok (.frameReadAck 0#1 15#4 25#8 0x2A80#16) := by decide
theorem test_decode_frame_write_ack :
    decode (.line 0xD0013740#32) = .ok (.frameWriteAck 1#1 0#4 1#8 0x3740#16) := by decide
theorem test_decode_frame_data_invalid :
    decode (.line 0xE0190000#32) = .ok (.frameDataInvalid 1#1 0#4 25#8 0#16) := by decide
theorem test_decode_frame_unknown_data_id :
    decode (.line 0xF0FFFFFF#32) = .ok (.frameUnknownDataId 1#1 0#4 255#8 0xFFFF#16) := by decide

/-! ### Codec: §2.1 and §2.2 -/

theorem test_parity_counts_bit_31 :
    resultsOf (exec (.parity 0x80000000#32) State.reset) = some [.bit true] := by decide
theorem test_parity_of_all_ones : resultsOf (exec (.parity 0xFFFFFFFF#32) State.reset) = some [.bit false] := by decide
theorem test_build_request_sets_parity :
    resultsOf (exec (.buildRequest .readData 25#8 0#16) State.reset) = some [.frame 0x80190000#32] := by decide
theorem test_build_request_of_slave_kind :
    resultsOf (exec (.buildRequest .readAck 25#8 0x2A80#16) State.reset) = some [.frame 0x80192A80#32] := by decide
theorem test_build_request_truncates : buildRequestOf 0 0x1FF 0x1FFFF = .buildRequest .readData 0xFF#8 0xFFFF#16 := by decide
theorem test_valid_response_ignores_spare_bits :
    resultsOf (exec (.isValidResponse 0x4F192A80#32) State.reset) = some [.bit true] := by decide
theorem test_data_invalid_is_no_valid_response :
    resultsOf (exec (.isValidResponse 0xE0190000#32) State.reset) = some [.bit false] := by decide
theorem test_get_kind : resultsOf (exec (.getKind 0xF0FFFFFF#32) State.reset) = some [.kind .unknownDataId] := by decide
theorem test_get_data_id : resultsOf (exec (.getDataId 0x40192A80#32) State.reset) = some [.dataId 25#8] := by decide
theorem test_get_u16 : resultsOf (exec (.getU16 0x40192A81#32) State.reset) = some [.unsigned 0x2A81#16] := by decide
theorem test_get_f88_most_negative :
    resultsOf (exec (.getF88 0x40198000#32) State.reset) = some [.fixedPoint (-32768)] := by decide
theorem test_get_f88_minus_one_256th :
    resultsOf (exec (.getF88 0x4019FFFF#32) State.reset) = some [.fixedPoint (-1)] := by decide
theorem test_temp_to_f88_floors :
    resultsOf (exec (.tempToF88 (.ratio 37 10)) State.reset) = some [.payload 0x03B3#16] := by decide
theorem test_temp_to_f88_nan_is_refused :
    (nextOf (exec (.tempToF88 .nan) State.reset)).map State.mark = some (some .notANumber) := by decide
theorem test_temp_to_f88_clamps :
    temperatureOf (.ratio (-5) 1) = some 0#16 ∧ temperatureOf (.ratio 150 1) = some 0x6400#16 := by decide
theorem test_is_fault : resultsOf (exec (.isFault 0xC0000003#32) State.reset) = some [.bit true] := by decide
theorem test_is_ch_active : resultsOf (exec (.isChActive 0xC000000A#32) State.reset) = some [.bit true] := by decide
theorem test_is_dhw_active_default : resultsOf (exec (.isDhwActive 0xC0000003#32) State.reset) = some [.bit false] := by decide
/-- The §8 scenario's reading: ch_active 0 and dhw_active 1 (§1.6). -/
theorem test_is_dhw_active_section_8 :
    resultsOf (exec (.isDhwActive 0xC0000003#32)
      { State.reset with cfg := { Config.default with
          flagPos := { FlagPos.default with chActive := 0, dhwActive := 1, fault := 2 } } }) = some [.bit true] := by decide
theorem test_is_flame_on : resultsOf (exec (.isFlameOn 0xC000000A#32) State.reset) = some [.bit true] := by decide
theorem test_is_cooling_active : resultsOf (exec (.isCoolingActive 0x40000010#32) State.reset) = some [.bit true] := by decide
theorem test_is_diagnostic : resultsOf (exec (.isDiagnostic 0x40000040#32) State.reset) = some [.bit true] := by decide
theorem test_is_diagnostic_reads_bit_6_only :
    resultsOf (exec (.isDiagnostic 0x400000A0#32) State.reset) = some [.bit false] := by decide

/-! ### Transmitter: §2.3 -/

/-- The 68 half-bits of 0x80190000, A = true. -/
theorem test_half_bits :
    (List.range 68).map (fun k => halfBit 0x80190000#32 k == .active) =
      "AIAIIAIAIAIAIAIAIAIAIAIAAIAIIAIAAIIAIAIAIAIAIAIAIAIAIAIAIAIAIAIAIAAI".toList.map (· == 'A') := by decide
theorem test_transmit_first_half_bit :
    (nextOf (exec (.transmit 0x80190000#32) { snap .sending .none 0 0 0 1000000 with port := .tx })).map
      (fun t => (t.txLine, t.txH, t.holdUntil)) = some (.active, 1#7, 1000500) := by decide
theorem test_transmit_completion :
    (nextOf (exec (.transmit 0x80190000#32) { snap .sending .none 0 0 0 1034000 with port := .tx, txH := 68 })).map
      (fun t => (shown t, t.txLine, t.port, t.resultLog)) =
      some (⟨.awaitingStart, .none, 0, 1034000, 0⟩, .idle, .free, [.accepted true]) := by decide

/-! ### Decoder: §2.4 -/

theorem test_E4_start_bit_at_749 :
    (nextOf (exec (.edge .idle) (snap .startReceived .none 0 1054000 0 1054749))).map shown =
      some ⟨.receiving, .none, 0, 1054749, 0⟩ := by decide
theorem test_E5_start_bit_at_750 :
    (nextOf (exec (.edge .idle) (snap .startReceived .none 0 1054000 0 1054750))).map shown =
      some ⟨.frameInvalid, .none, 0, 1054750, 0⟩ := by decide
theorem test_E8_data_edge_at_750 :
    (nextOf (exec (.edge .active) (snap .receiving .none 0 1054500 0 1055250))).map shown =
      some ⟨.receiving, .none, 0, 1054500, 0⟩ := by decide
theorem test_E9_data_edge_at_751 :
    (nextOf (exec (.edge .idle) (snap .receiving .none 0 1054500 0 1055251))).map shown =
      some ⟨.receiving, .none, 1, 1055251, 1⟩ := by decide
theorem test_E14_stop_bit_checked :
    (nextOf (exec (.edge .active) { snap .receiving .none 0x40192A80 1086500 32 1087500 with
      cfg := { Config.default with stopBitCheck := true } })).map shown =
      some ⟨.frameInvalid, .none, 0x40192A80, 1087500, 32⟩ := by decide
theorem test_E20_edge_disabled :
    (nextOf (exec (.edge .idle) { snap .startReceived .none 0 1054000 0 1054500 with edgeEn := false, shut := true })).map shown =
      some ⟨.startReceived, .none, 0, 1054000, 0⟩ := by decide

/-! ### Session: §2.5 -/

theorem test_S4_start :
    (nextOf (exec .start State.reset)).map (fun t => (t.state, t.edgeEn, t.txLine, t.port, t.holdUntil)) =
      some (.uninitialized, true, .idle, .wake, 1000000) := by decide
theorem test_S6_second_start :
    (nextOf (exec .start (snap .ready .none 0 0 0 0))).map State.mark = some (some .alreadyStarted) := by decide
theorem test_S23_stop :
    (nextOf (exec .stop (snap .ready .none 0 0 0 0))).map (fun t => (shown t, t.edgeEn, t.shut)) =
      some (⟨.ready, .none, 0, 0, 0⟩, false, true) := by decide
theorem test_S7_send_accepted :
    (nextOf (exec (.send 0x80190000#32) (snap .ready .timeout 7 5 3 1000000))).map
      (fun t => (shown t, t.txFrame, t.txH, t.port)) =
      some (⟨.sending, .none, 0, 5, 3⟩, 0x80190000#32, 0#7, .tx) := by decide
theorem test_S20_send_rejected :
    (nextOf (exec (.send 0x80190000#32) (snap .quietPeriod .invalid 0 1040000 0 1060000))).map
      (fun t => (shown t, t.resultLog)) = some (⟨.quietPeriod, .invalid, 0, 1040000, 0⟩, [.accepted false]) := by decide
theorem test_S22_send_and_wait_rejected :
    resultsOf (exec (.sendAndWait 0x80190000#32) State.reset) = some [.frame 0] := by decide
theorem test_send_and_wait_accepted :
    (nextOf (exec (.sendAndWait 0x80190000#32) (snap .ready .none 0 0 0 0))).map (fun t => (t.port, t.waitAfterTx)) =
      some (.tx, true) := by decide
theorem test_S8_tick_at_800000 :
    (nextOf (exec .tick (snap .awaitingStart .none 0 1034000 0 1834000))).map (fun t => (t.state, t.doneLog)) =
      some (.awaitingStart, []) := by decide
theorem test_S11_late_frame_times_out :
    (nextOf (exec .tick (snap .frameReady .none 0x40192A80 1087500 32 1887501))).map (fun t => (shown t, t.doneLog)) =
      some (⟨.ready, .timeout, 0x40192A80, 1087500, 32⟩,
        [{ frame := 0x40192A80, outcome := .timeout, time := 1887501 }]) := by decide
theorem test_S24_read_status_after_stop :
    (nextOf (exec .readStatus { snap .ready .none 0 0 0 0 with shut := true })).map (fun t => (t.mark, t.resultLog)) =
      some (some .engineStopped, []) := by decide
theorem test_read_status_after_P1 :
    resultsOf (exec .readStatus (snap .ready .success 0x40192A80 1087500 32 1187501)) =
      some [.status 1 1 0x40192A80#32] := by decide
/-- §2.6: the second step applies the snapshot although an edge came between. -/
theorem test_split_tick_second_step :
    (nextOf (step (coming { snap .startReceived .none 0 1834001 0 1834001 with
        tickSnap := some { state := .awaitingStart, elapsed := 800001 }, holdUntil := 1834001 } 1834001 .resume))).map
      (fun t => (shown t, t.tickSnap)) = some (⟨.ready, .timeout, 0, 1834001, 0⟩, none) := by decide
/-- P5's last internal tick: READY frees the port and returns the response. -/
theorem test_send_and_wait_returns :
    (nextOf (step (coming { snap .quietPeriod .invalid 0x40192A81 1087500 32 1150000 with port := .wait } 1200000 .resume))).map
      (fun t => (shown t, t.port, t.resultLog)) =
      some (⟨.ready, .invalid, 0x40192A81, 1087500, 32⟩, .free, [.frame 0x40192A81#32]) := by decide

/-! ### Steps, refusals, reset, frames on the line -/

theorem test_X9_clock_backward :
    (nextOf (step (coming (snap .ready .none 0 0 0 1100000) 1099999 (.command 0xA000000000000000#64 (.ratio 0 1))))).map State.mark =
      some (some .clockPremise) := by decide
theorem test_X5_reserved_before_engine_stopped :
    (nextOf (step (coming { snap .ready .none 0 0 0 5 with shut := true } 4 (.command 0xF800000000000000#64 (.ratio 0 1))))).map
      State.mark = some (some .notAnOperation) := by decide
theorem test_reserved_rows_mark :
    (nextOf (exec .reserved01110 State.reset)).map State.mark = some (some .notAnOperation) ∧
    (nextOf (exec .reserved01111 State.reset)).map State.mark = some (some .notAnOperation) ∧
    (nextOf (exec .reserved10110 State.reset)).map State.mark = some (some .notAnOperation) ∧
    (nextOf (exec .reserved10111 State.reset)).map State.mark = some (some .notAnOperation) ∧
    (nextOf (exec (.reserved11xxx 1) State.reset)).map State.mark = some (some .notAnOperation) := by decide
theorem test_command_while_busy :
    faultOf (step (coming { snap .sending .none 0 0 0 0 with port := .tx } 0 (.command 0xA000000000000000#64 (.ratio 0 1)))) =
      some .commandWhileBusy := by decide
theorem test_reset_clears_shut :
    (nextOf (step (coming { snap .receiving .none 7 9 3 20 with shut := true } 30 .reset))).map
      (fun t => (shown t, t.shut, t.now)) = some (⟨.uninitialized, .none, 0, 0, 0⟩, false, 20) := by decide
/-- R89: 0x40192A80 has 52 edges, the first ACTIVE at the start and the last IDLE at +33500. -/
theorem test_nominal_edges_of_42_5 :
    (nominalEdges 0x40192A80#32 1054000).length = 52 ∧
    (nominalEdges 0x40192A80#32 1054000).head? = some { time := 1054000, input := .edge 0xC800000000000001#64 } ∧
    (nominalEdges 0x40192A80#32 1054000).getLast? = some { time := 1087500, input := .edge 0xC800000000000000#64 } := by decide
theorem test_nominal_edge_counts :
    [0x55555555#32, 0xD5555555#32, 0xD0013740#32, 0x80190000#32, 0xFFFFFFFF#32].map (fun f => (nominalEdges f 0).length) =
      [36, 38, 56, 62, 68] := by decide
/-- A frame's edges go among the events to come by time: all before a TICK at 1100000. -/
theorem test_frame_read_ack_schedules :
    (nextOf (exec (.frameReadAck 0#1 0#4 25#8 0x2A80#16)
      (coming (snap .awaitingStart .none 0 1034000 0 1054000) 1100000 (.command 0xA000000000000000#64 (.ratio 0 1))))).map
      (fun t => (t.inputs.length, t.inputs.getLast?)) =
      some (53, some { time := 1100000, input := .command 0xA000000000000000#64 (.ratio 0 1) }) := by decide
/-- The other frame rows: the edge counts of §2.3 for 0x00000000, 0x10013740, 0xD0013740 and 0xFFFFFFFF. -/
theorem test_frame_rows_schedule :
    (nextOf (exec (.frameReadData 0 0 0 0) State.reset)).map (·.inputs.length) = some 66 ∧
    (nextOf (exec (.frameWriteData 0 0 1 0x3740) State.reset)).map (·.inputs.length) = some 56 ∧
    (nextOf (exec (.frameWriteAck 1 0 1 0x3740) State.reset)).map (·.inputs.length) = some 56 ∧
    (nextOf (exec (.frameUnknownDataId 1 15 255 0xFFFF) State.reset)).map (·.inputs.length) = some 68 := by decide
/-- 0xAAAAAAAA has 36 edges (§2.3); 0x60000000 and 0x30000000 have four changes among their 34 bits, so 35 + 29 (R89). -/
theorem test_frame_rows_schedule_more :
    (nextOf (exec (.frameInvalidData 1 10 0xAA 0xAAAA) State.reset)).map (·.inputs.length) = some 36 ∧
    (nextOf (exec (.frameDataInvalid 0 0 0 0) State.reset)).map (·.inputs.length) = some 64 ∧
    (nextOf (exec (.frameReserved 0 0 0 0) State.reset)).map (·.inputs.length) = some 64 := by decide
theorem test_table_word_read_status : decodeTableWord 64 0xA800000000000000 = some .readStatus := by decide
theorem test_table_word_frame : decodeTableWord 32 0x40192A80 = some (.frameReadAck 0#1 0#4 25#8 0x2A80#16) := by decide
theorem test_placed_word_runs :
    (nextOf (step (State.reset.withFetchWord 64 0x9000000080190000))).map State.resultLog = some [.accepted false] := by decide
theorem test_placed_transmit_runs :
    (nextOf (step (State.reset.withFetchWord 64 0xC000000080190000))).map (fun t => (t.txLine, t.txH)) =
      some (.active, 1#7) := by decide
theorem test_text_of_build_request : instrText (.buildRequest .readData 25#8 0#16) = "BUILD_REQUEST READ_DATA, 25, 0x0000" := by
  decide

/-! ### The end of a run (spec/70_reset_and_hazards.md R253) -/

/-- spec/95_test_vectors.md S1 as a program of one command: it ends with the result (0, 0, 0x00000000) and no DONE. -/
theorem test_run_ends :
    runToEnd 2 (coming State.reset 0 (.command 0xA800000000000000#64 (.ratio 0 1))) =
      some (.next { State.reset.endState with resultLog := [.status 0 0 0] }) := rfl

/-- With `port` TX and nothing to come the run has not ended: the command has not returned. -/
theorem test_run_with_open_command_is_no_end :
    ({ snap .sending .none 0 0 0 0 with port := .tx }).runEnded = false ∧
    runToEnd 3 { snap .sending .none 0 0 0 0 with port := .tx } = none := ⟨by decide, rfl⟩

/-! ### Witnesses: each meets the hypotheses of the statement it is named after, clause by clause, at the ends of the ranges -/

theorem witness_DecodeOfEncode : Instr.wf (.tempToF88 (.ratio (-1) 3)) = true ∧ Instr.wf (.send 0xFFFFFFFF#32) = true := by decide

theorem witness_UnusedFieldsIgnored :
    (opField 0x8000000000000000#64 = opField 0x8000000000000001#64 ∧
      0x8000000000000000#64 &&& usedBits (opField 0x8000000000000000#64) =
        0x8000000000000001#64 &&& usedBits (opField 0x8000000000000000#64) ∧
      (opField 0x8000000000000000#64 = 0b00111#5 → Value.nan = Value.ratio 0 1)) ∧
    (0x0819000000000000#64 &&& usedBits (opField 0x0819000000000000#64) =
      0x08190000FFFFFFFF#64 &&& usedBits (opField 0x0819000000000000#64)) ∧
    (opField 0xC800000000000001#64 = opField 0xCFFFFFFFFFFFFFFF#64 ∧
      (0xC800000000000001#64).getLsbD 0 = (0xCFFFFFFFFFFFFFFF#64).getLsbD 0) ∧
    (opField 0xC000000080190000#64 = opField 0xC7FFFFFF80190000#64 ∧
      0xC000000080190000#64 &&& 0x00000000FFFFFFFF#64 = 0xC7FFFFFF80190000#64 &&& 0x00000000FFFFFFFF#64) := by decide

theorem witness_ReservedCodesRefused :
    [0x7000000000000000#64, 0x7800000000000000#64, 0xB000000000000000#64, 0xB800000000000000#64, 0xC000000000000000#64,
      0xF800000000000000#64].all (fun w => (opField w).toNat ∈ [14, 15, 22, 23] ∨ 24 ≤ (opField w).toNat) = true ∧
    [0x6800000000000000#64, 0x8000000000000000#64, 0xA800000000000000#64].all
      (fun w => ¬ ((opField w).toNat ∈ [14, 15, 22, 23] ∨ 24 ≤ (opField w).toNat)) = true ∧
    State.reset.mark = none := by decide

theorem witness_ReservedRowsOnlyMark : State.reset.mark = none := by decide

theorem witness_StepRunsCommand :
    let s := coming (snap .ready .none 0 0 0 5) 5 (.command 0xA000000000000000#64 (.ratio 0 1))
    s.inputs = { time := 5, input := .command 0xA000000000000000#64 (.ratio 0 1) } :: [] ∧ s.port = .free ∧ s.tickSnap = none ∧
      decode (.command 0xA000000000000000#64 (.ratio 0 1)) = .ok .tick ∧ s.now ≤ 5 ∧ 5 < 2 ^ s.cfg.clockWidth := by decide

theorem witness_StepRunsEdgesAndFrames :
    (let s := coming (snap .receiving .none 0 0 0 5) 5 (.edge 0xC800000000000001#64)
     s.inputs = { time := 5, input := .edge 0xC800000000000001#64 } :: [] ∧ decode (.edge 0xC800000000000001#64) = .ok (.edge .active) ∧
      s.now ≤ 5 ∧ 5 < 2 ^ s.cfg.clockWidth) ∧
    (let s := coming (snap .awaitingStart .none 0 0 0 5) (2 ^ 64 - 1) (.frame 0x40192A80#32)
     s.inputs = { time := 2 ^ 64 - 1, input := .frame 0x40192A80#32 } :: [] ∧
      decode (.line 0x40192A80#32) = .ok (.frameReadAck 0#1 0#4 25#8 0x2A80#16) ∧ s.now ≤ 2 ^ 64 - 1 ∧
      2 ^ 64 - 1 < 2 ^ s.cfg.clockWidth) := by decide

theorem witness_StepRunsTransmit :
    let s := coming { snap .sending .none 0 0 0 1000 with port := .tx, holdUntil := 1500 } 1500 .resume
    s.inputs = { time := 1500, input := .resume } :: [] ∧ s.port = .tx ∧ s.now ≤ 1500 ∧ s.holdUntil ≤ 1500 ∧
      1500 < 2 ^ s.cfg.clockWidth := by decide

theorem witness_HoldIsLowerBound :
    let s := coming { snap .sending .none 0 0 0 1000 with port := .tx, holdUntil := 1500 } 1499 .resume
    s.inputs = { time := 1499, input := .resume } :: [] ∧ s.now ≤ 1499 ∧ 1499 < s.holdUntil ∧ 1499 < 2 ^ s.cfg.clockWidth := by
  decide

theorem witness_ClockPremiseRefused :
    let s := snap .ready .none 0 0 0 1100000
    s.mark = none ∧ 1099999 % 2 ^ s.cfg.clockWidth < s.now ∧ s.busy = false ∧
      noOperation (decodeCommand 0xA000000000000000#64 (.ratio 0 1)) = false ∧
      noOperation (decodeCommand 0xF800000000000000#64 (.ratio 0 1)) = true ∧ opField 0xC800000000000000#64 = 0b11001#5 := by decide

theorem witness_NoMoveStops :
    ({ snap .sending .none 0 0 0 0 with port := .tx }).port ≠ .free ∧
    ({ snap .ready .none 0 0 0 0 with tickSnap := some { state := .ready, elapsed := 0 } }).tickSnap ≠ none ∧
    (coming (snap .ready .none 0 0 0 0) 0 (.edge 0xC000000000000000#64)).inputs =
      { time := 0, input := .edge 0xC000000000000000#64 } :: [] ∧
    opField 0xC000000000000000#64 ≠ 0b11001#5 := by decide

/-- Each code clause of the statements about one instruction of the command port. -/
theorem witness_command_codes :
    opField 0x0000000000000000#64 = 0b00000#5 ∧ opField 0x0FFFFFFFFFFFFFFF#64 = 0b00001#5 ∧ opField 0x1000000000000000#64 = 0b00010#5 ∧
    opField 0x1800000000000000#64 = 0b00011#5 ∧ opField 0x2000000000000000#64 = 0b00100#5 ∧ opField 0x2800000000000000#64 = 0b00101#5 ∧
    opField 0x3000000000000000#64 = 0b00110#5 ∧ opField 0x3800000000000000#64 = 0b00111#5 ∧ opField 0x4000000000000000#64 = 0b01000#5 ∧
    opField 0x4800000000000000#64 = 0b01001#5 ∧ opField 0x5000000000000000#64 = 0b01010#5 ∧ opField 0x5800000000000000#64 = 0b01011#5 ∧
    opField 0x6000000000000000#64 = 0b01100#5 ∧ opField 0x6800000000000000#64 = 0b01101#5 ∧ opField 0x8000000000000000#64 = 0b10000#5 ∧
    opField 0x8800000000000000#64 = 0b10001#5 ∧ opField 0x9000000000000000#64 = 0b10010#5 ∧ opField 0x9800000000000000#64 = 0b10011#5 ∧
    opField 0xA800000000000000#64 = 0b10101#5 := by decide

theorem witness_BuildRequestFrame : (15 < 16 ∧ 7 < 8 ∧ 24 ≤ 27 ∧ 27 < 28) ∧ opField 0x0800000000000000#64 = 0b00001#5 := by decide

theorem witness_TemperatureConversion : (1 : Nat) ≠ 0 ∧ State.reset.mark = none ∧ temperatureOf .negInfinity = none := by decide

theorem witness_CodecLaws :
    temperatureOf (.ratio 85 2) = some (framePayload 0x40192A80#32) ∧ (2 : Nat) ≠ 0 ∧ validResponse 0x40192A80#32 = true := by decide

theorem witness_CodecIsPure :
    isCodec (.getU16 0#32) = true ∧ isCodec (.tempToF88 (.ratio 1 2)) = true ∧ temperatureOf (.ratio 1 2) ≠ none ∧
    temperatureOf .nan = none ∧ temperatureOf (.ratio 1 0) = none := by decide

theorem witness_TransmitHalfBit : (0#7).toNat < 68 ∧ (67#7).toNat < 68 := by decide

theorem witness_TransmitCompletion :
    let s := { snap .sending .none 0 0 0 1034000 with port := .tx, txH := 68 }
    68 ≤ s.txH.toNat ∧ s.waitAfterTx = false ∧ ({ s with waitAfterTx := true }).waitAfterTx = true := by decide

theorem witness_WholeTransmission :
    let s := { snap .sending .none 0 0 0 1000000 with
      port := .tx, txFrame := 0x80190000, holdUntil := 1000000, inputs := transmitMoves 1000000 ++ [] }
    s.port = .tx ∧ s.txH = 0 ∧ s.waitAfterTx = false ∧ s.now ≤ 1000000 ∧ s.holdUntil ≤ 1000000 ∧
      1000000 + 34000 < 2 ^ s.cfg.clockWidth ∧ s.inputs = transmitMoves 1000000 ++ [] := by decide

theorem witness_EdgesWithoutEffect :
    State.reset.edgeEn = false ∧ (snap .quietPeriod .none 0 0 0 0).state = .quietPeriod ∧
    (let s := snap .receiving .none 0 1054500 0 1055250
     s.state = .receiving ∧ s.elapsed s.ts ≤ 750) := by decide

theorem witness_FirstEdge :
    (snap .awaitingStart .none 0 1034000 0 1034000).edgeEn = true ∧
    (snap .awaitingStart .none 0 1034000 0 1034000).state = .awaitingStart := by decide

theorem witness_StartBitEdge :
    (let s := snap .startReceived .none 0 1054000 0 1054749
     s.edgeEn = true ∧ s.state = .startReceived ∧ s.elapsed s.ts < 750 ∧ Level.idle = .idle) ∧
    (let s := snap .startReceived .none 0 1054000 0 1054750
     s.edgeEn = true ∧ s.state = .startReceived ∧ ¬ (s.elapsed s.ts < 750 ∧ Level.idle = .idle)) := by decide

theorem witness_DataBit :
    let s := snap .receiving .none 0x20096540 1085500 31 1086251
    s.edgeEn = true ∧ s.state = .receiving ∧ 750 < s.elapsed s.ts ∧ s.bitcount.toNat < 32 := by decide

theorem witness_StopBit :
    let s := snap .receiving .none 0x40192A80 1086500 32 1087251
    s.edgeEn = true ∧ s.state = .receiving ∧ 750 < s.elapsed s.ts ∧ s.bitcount = 32 := by decide

theorem witness_NominalDecoding :
    let s := { snap .awaitingStart .none 0 1034000 0 1034000 with inputs := nominalEdges 0x40192A80#32 1054000 ++ [] }
    s.state = .awaitingStart ∧ s.edgeEn = true ∧ s.now ≤ 1054000 ∧ 1054000 + 33500 < 2 ^ s.cfg.clockWidth ∧
      s.inputs = nominalEdges 0x40192A80#32 1054000 ++ [] ∧ 0 < 51 ∧ 51 < (nominalEdges 0x40192A80#32 1054000).length := by decide

theorem witness_EdgeActivityBounded :
    (nextOf (exec (.edge .idle) (snap .receiving .none 0 0 32 751))).isSome = true ∧ (32#6).toNat ≤ 32 ∧
    (let s := coming { snap .sending .none 0 0 0 500 with port := .tx, txH := 68 } 500 .resume
     s.ControlInv ∧ s.bitcount.toNat ≤ 32 ∧ ∃ t, step s = .next t ∧ edgeBudget s < edgeBudget t) ∧
    (let s := coming (snap .receiving .none 0 0 32 751) 751 (.edge 0xC800000000000000#64)
     s.ControlInv ∧ s.bitcount.toNat ≤ 32 ∧ s.state ≠ .sending ∧ ∃ t, step s = .next t ∧ t.ts ≠ s.ts) ∧
    (let s := coming (snap .quietPeriod .success 7 0 32 751) 751 (.edge 0xC800000000000000#64)
     s.ControlInv ∧ s.state ≠ .awaitingStart ∧ s.state ≠ .startReceived ∧ s.state ≠ .receiving ∧ s.state ≠ .sending ∧
       s.inputs = [{ time := 751, input := .edge 0xC800000000000000#64 }]) :=
  ⟨by decide, by decide, ⟨by decide, by decide, _, rfl, by decide⟩, ⟨by decide, by decide, by decide, _, rfl, by decide⟩, by decide⟩

theorem witness_StartBegins :
    (State.reset.shut = false ∧ State.reset.state = .uninitialized) ∧
    (({ State.reset with shut := true }).shut = true ∧ ({ State.reset with shut := true }).mark = none) ∧
    ((snap .ready .none 0 0 0 0).shut = false ∧ (snap .ready .none 0 0 0 0).state ≠ .uninitialized ∧
      (snap .ready .none 0 0 0 0).mark = none) := by decide

theorem witness_StartCompletes :
    let s := coming { snap .uninitialized .none 0 0 0 0 with port := .wake, holdUntil := 1000000 } 1000000 .resume
    s.inputs = { time := 1000000, input := .resume } :: [] ∧ s.port = .wake ∧ s.now ≤ 999999 ∧
      1000000 < 2 ^ s.cfg.clockWidth ∧ s.holdUntil ≤ 1000000 ∧ 999999 < s.holdUntil := by decide

theorem witness_StopShutsDown : State.reset.shut = false := by decide

theorem witness_SendAcceptance :
    ((snap .ready .none 0 0 0 0).shut = false ∧ (snap .ready .none 0 0 0 0).state = .ready) ∧
    ((snap .quietPeriod .none 0 0 0 0).shut = false ∧ (snap .quietPeriod .none 0 0 0 0).state ≠ .ready) ∧
    (({ State.reset with shut := true }).shut = true ∧ ({ State.reset with shut := true }).mark = none) := by decide

theorem witness_SendAndWaitAcceptance :
    ((snap .ready .none 0 0 0 0).shut = false ∧ (snap .ready .none 0 0 0 0).state = .ready) ∧
    (State.reset.shut = false ∧ State.reset.state ≠ .ready) := by decide

theorem witness_SendAndWaitLoop :
    (let s := coming { snap .quietPeriod .invalid 0x40192A81 1087500 32 1150000 with port := .wait } 1200000 .resume
     (s.inputs = { time := 1200000, input := .resume } :: [] ∧ s.port = .wait ∧ s.tickSnap = none ∧
       s.now ≤ 1200000 ∧ s.holdUntil ≤ 1200000 ∧ 1200000 < 2 ^ s.cfg.clockWidth) ∧
     ∃ u, exec .tick { s with inputs := [], now := 1200000 } = .next u ∧ u.tickSnap = none) ∧
    (let s := coming { snap .awaitingStart .none 0 1034000 0 1034000 with
       port := .wait, cfg := { Config.default with tickSplitPhase := true } } 1100000 .resume
     s.tickSnap = none ∧ ∃ u, exec .tick { s with inputs := [], now := 1100000 } = .next u ∧ u.tickSnap ≠ none) ∧
    (let snapshot : TickSnapshot := { state := .quietPeriod, elapsed := 100001 }
     let s := coming { snap .quietPeriod .success 0x40192A80 1087500 32 1187501 with
       port := .wait, tickSnap := some snapshot, holdUntil := 1187501 } 1187501 .resume
     s.inputs = { time := 1187501, input := .resume } :: [] ∧ s.port = .wait ∧ s.tickSnap = some snapshot ∧
       s.now ≤ 1187501 ∧ s.holdUntil ≤ 1187501 ∧ 1187501 < 2 ^ s.cfg.clockWidth) :=
  ⟨⟨by decide, _, rfl, by decide⟩, ⟨by decide, _, rfl, by decide⟩, by decide⟩

theorem witness_EngineStoppedRefusals :
    ({ snap .ready .none 0 0 0 0 with shut := true }).shut = true ∧ ({ snap .ready .none 0 0 0 0 with shut := true }).mark = none := by
  decide

theorem witness_TickTimeout :
    let s := snap .frameReady .none 0x40192A80 1087500 32 1887501
    s.shut = false ∧ s.cfg.tickSplitPhase = false ∧ s.state ≠ .uninitialized ∧ s.state ≠ .ready ∧ s.state ≠ .quietPeriod ∧
      800000 < s.elapsed s.ts := by decide

theorem witness_TickInvalidFrame :
    let s := snap .frameInvalid .none 0 1040000 0 1840000
    s.shut = false ∧ s.cfg.tickSplitPhase = false ∧ s.state = .frameInvalid ∧ s.elapsed s.ts ≤ 800000 := by decide

theorem witness_TickFrameReceived :
    let s := snap .frameReady .none 0x40192A80 1087500 32 1887500
    s.shut = false ∧ s.cfg.tickSplitPhase = false ∧ s.state = .frameReady ∧ s.elapsed s.ts ≤ 800000 := by decide

theorem witness_TickQuietEnds :
    (let s := snap .quietPeriod .success 0x40192A80 1087500 32 1187501
     s.shut = false ∧ s.cfg.tickSplitPhase = false ∧ s.state = .quietPeriod ∧ 100000 < s.elapsed s.ts) ∧
    (let s := snap .quietPeriod .success 0x40192A80 1087500 32 1187500
     s.shut = false ∧ s.cfg.tickSplitPhase = false ∧ s.state = .quietPeriod ∧ s.elapsed s.ts ≤ 100000) := by decide

theorem witness_TickNoAction :
    (snap .ready .none 0 0 0 900000).shut = false ∧ (snap .ready .none 0 0 0 900000).cfg.tickSplitPhase = false ∧
    (snap .ready .none 0 0 0 900000).state = .ready ∧ State.reset.state = .uninitialized ∧
    (let s := snap .awaitingStart .none 0 1034000 0 1834000
     s.state = .awaitingStart ∧ s.elapsed s.ts ≤ 800000) ∧
    (let s := { snap .sending .none 0 1034000 0 1834000 with port := .tx }
     s.state = .sending ∧ s.elapsed s.ts ≤ 800000) ∧
    (let s := snap .quietPeriod .none 0 1087500 32 1187500
     s.state = .quietPeriod ∧ s.elapsed s.ts ≤ 100000) := by decide

theorem witness_TickSplitPhases :
    (let s := { snap .awaitingStart .none 0 1034000 0 1834001 with cfg := { Config.default with tickSplitPhase := true } }
     s.shut = false ∧ s.cfg.tickSplitPhase = true) ∧
    (let snapshot : TickSnapshot := { state := .awaitingStart, elapsed := 800001 }
     let s := coming { snap .startReceived .none 0 1834001 0 1834001 with tickSnap := some snapshot, holdUntil := 1834001 } 1834001 .resume
     s.inputs = { time := 1834001, input := .resume } :: [] ∧ s.port = .free ∧ s.tickSnap = some snapshot ∧
      s.now ≤ 1834001 ∧ s.holdUntil ≤ 1834001 ∧ 1834001 < 2 ^ s.cfg.clockWidth ∧ 800000 < snapshot.elapsed) := by decide

theorem witness_ReadStatusResult :
    State.reset.shut = false ∧ ({ State.reset with shut := true }).shut = true ∧ ({ State.reset with shut := true }).mark = none := by
  decide

theorem witness_RefusalChangesOnlyMark :
    ∃ t, exec .reserved01110 State.reset = .next t ∧ t.mark ≠ State.reset.mark := ⟨_, rfl, by decide⟩

theorem witness_OutputsOnlyGrow :
    (let s := coming State.reset 0 (.command 0xA800000000000000#64 (.ratio 0 1))
     (∃ t, step s = .next t) ∧ (runToEnd 1 s).isSome = true ∧ s.runEnded = false) ∧
    ({ State.reset with mark := some .notANumber }).mark = some .notANumber ∧
    (let s := coming State.reset 5 .resume
     s.runEnded = true ∧ s.now ≤ 5 % 2 ^ s.cfg.clockWidth ∧ ∃ t, step s = .next t) :=
  ⟨⟨⟨_, rfl⟩, by decide, by decide⟩, by decide, by decide, by decide, _, rfl⟩

theorem witness_OneReportPerExchange :
    let s := coming (snap .frameReady .none 0x40192A80 1087500 32 1100000) 1100000 (.command 0xA000000000000000#64 (.ratio 0 1))
    s.ControlInv ∧ ∃ t, step s = .next t ∧ t.doneLog ≠ s.doneLog := ⟨by decide, _, rfl, by decide⟩

theorem witness_OnlySendOpensExchange :
    let s := coming (snap .ready .none 0 0 0 0) 0 (.command 0x9000000080190000#64 (.ratio 0 1))
    s.ControlInv ∧ s.state.eligible = false ∧ ∃ t, step s = .next t ∧ t.state.eligible = true := ⟨by decide, by decide, _, rfl, by decide⟩

/-- One witness for each clause of the transition table: an input that changes `state`. -/
theorem witness_OnlyTableTransitions :
    let go := fun (s : State) (i : Input) =>
      let c := coming s s.now i
      decide (c.ControlInv ∧ c.cfg.stopBitCheck = false ∧ c.cfg.tickSplitPhase = false ∧ c.tickSnap = none ∧ i ≠ .reset) &&
        (match step c with | .next t => decide (t.state ≠ s.state) | .fault _ => false | .refused _ => false)
    let tickInput := Input.command 0xA000000000000000#64 (.ratio 0 1)
    let active := Input.edge 0xC800000000000001#64
    let idle := Input.edge 0xC800000000000000#64
    go { snap .uninitialized .none 0 0 0 0 with edgeEn := true, port := .wake, txLine := .idle } .resume = true ∧
    go (snap .ready .none 0 0 0 0) (.command 0x9000000080190000#64 (.ratio 0 1)) = true ∧
    go { snap .sending .none 0 0 0 0 with port := .tx, txH := 68 } .resume = true ∧
    go (snap .awaitingStart .none 0 0 0 5) active = true ∧ go (snap .awaitingStart .none 0 0 0 5) idle = true ∧
    go (snap .startReceived .none 0 0 0 749) idle = true ∧ go (snap .startReceived .none 0 0 0 750) idle = true ∧
    go (snap .receiving .none 7 0 32 751) active = true ∧ go (snap .awaitingStart .none 0 0 0 800001) tickInput = true ∧
    go (snap .frameInvalid .none 0 0 0 800000) tickInput = true ∧ go (snap .frameReady .none 7 0 32 800000) tickInput = true ∧
    go (snap .quietPeriod .success 7 0 32 100001) tickInput = true := by decide

theorem witness_ResetEffect :
    (coming (snap .receiving .none 7 9 3 20) 0 .reset).inputs = { time := 0, input := .reset } :: [] := by decide

theorem witness_FrameRowsScheduleEdges :
    (Instr.frameUnknownDataId 1#1 15#4 255#8 0xFFFF#16, 7#3) ∈
      [(Instr.frameReadData 1#1 15#4 255#8 0xFFFF#16, 0#3), (Instr.frameUnknownDataId 1#1 15#4 255#8 0xFFFF#16, 7#3)] ∧
    ∃ e post, nominalEdges (frameOf 1#1 7#3 15#4 255#8 0xFFFF#16) 0 = [] ++ e :: post := ⟨by decide, _, _, rfl⟩

/-- A receiving state in the middle of an exchange that meets the whole invariant, and that a step leaves. -/
theorem witness_invariants :
    let s := coming (snap .receiving .none 1 1055500 1 1055500) 1056500 (.edge 0xC800000000000000#64)
    s.ControlInv ∧ s.ReceiveInv ∧ s.ClockInv ∧ ∃ t, step s = .next t := ⟨by decide, by decide, by decide, _, rfl⟩

theorem witness_LinesAreIndependent :
    ∃ lines', stepLine [State.reset, State.reset] 1 = some (.next lines') := ⟨_, rfl⟩

end Sys2Proof.Tests
end

section
/-!
SUPPORT. What the outputs of the block can do in a step, and the end of a run.
-/

namespace Sys2Proof.Machine

/-! ### The outputs only grow -/

/-- From `s` to `t` at most `dones` DONEs and `results` results are appended, and a mark and the parameters stay. -/
structure State.OutputsGrow (dones results : Nat) (s t : State) : Prop where
  done : ∃ d : List DoneEvent, d.length ≤ dones ∧ t.doneLog = s.doneLog ++ d
  result : ∃ r : List CommandResult, r.length ≤ results ∧ t.resultLog = s.resultLog ++ r
  mark : ∀ r, s.mark = some r → t.mark = some r
  cfg : t.cfg = s.cfg

/-- What leaves the outputs, the mark and the parameters as they were appends nothing. -/
theorem State.OutputsGrow.of_eq {m n : Nat} {s t : State} (hd : t.doneLog = s.doneLog) (hr : t.resultLog = s.resultLog)
    (hm : t.mark = s.mark) (hc : t.cfg = s.cfg) : s.OutputsGrow m n t where
  done := ⟨[], Nat.zero_le m, by simp [hd]⟩
  result := ⟨[], Nat.zero_le n, by simp [hr]⟩
  mark _ h := hm.trans h
  cfg := hc

theorem State.OutputsGrow.refl {m n : Nat} (s : State) : s.OutputsGrow m n s := .of_eq rfl rfl rfl rfl

theorem State.OutputsGrow.trans {m n m' n' : Nat} {s t u : State} (h : s.OutputsGrow m n t) (h' : t.OutputsGrow m' n' u) :
    s.OutputsGrow (m + m') (n + n') u := by
  obtain ⟨⟨d, hd, hsd⟩, ⟨r, hr, hsr⟩, hmark, hcfg⟩ := h
  obtain ⟨⟨d', hd', htd⟩, ⟨r', hr', htr⟩, hmark', hcfg'⟩ := h'
  exact {
    done := ⟨d ++ d', List.length_append.trans_le (Nat.add_le_add hd hd'), by simp [htd, hsd]⟩
    result := ⟨r ++ r', List.length_append.trans_le (Nat.add_le_add hr hr'), by simp [htr, hsr]⟩
    mark := fun x hx => hmark' x (hmark x hx)
    cfg := hcfg'.trans hcfg }

theorem State.OutputsGrow.mono {m n m' n' : Nat} {s t : State} (h : s.OutputsGrow m n t) (hm : m ≤ m') (hn : n ≤ n') :
    s.OutputsGrow m' n' t where
  done := h.done.imp fun _ hd => ⟨hd.1.trans hm, hd.2⟩
  result := h.result.imp fun _ hr => ⟨hr.1.trans hn, hr.2⟩
  mark := h.mark
  cfg := h.cfg

/-- A state with other events to come has the same outputs. -/
theorem State.OutputsGrow.of_inputs {m n : Nat} {s t : State} {q : List Event}
    (h : ({ s with inputs := q } : State).OutputsGrow m n t) : s.OutputsGrow m n t :=
  ⟨h.done, h.result, h.mark, h.cfg⟩

/-! ### Each operation -/

theorem State.refuse_outputsGrow {m n : Nat} (s : State) (r : RefusalReason) : s.OutputsGrow m n (s.refuse r) where
  done := ⟨[], Nat.zero_le m, by simp⟩
  result := ⟨[], Nat.zero_le n, by simp⟩
  mark first h := s.refuse_mark_kept r first h
  cfg := rfl

theorem State.pushResult_outputsGrow {m : Nat} (s : State) (r : CommandResult) : s.OutputsGrow m 1 (s.pushResult r) where
  done := ⟨[], Nat.zero_le m, by simp⟩
  result := ⟨[r], le_rfl, rfl⟩
  mark _ h := h
  cfg := rfl

theorem State.report_outputsGrow {n : Nat} (s : State) (o : ExchangeOutcome) (next : SessionState) :
    s.OutputsGrow 1 n (s.report o next) where
  done := ⟨[{ frame := s.response, outcome := o, time := s.now }], le_rfl, rfl⟩
  result := ⟨[], Nat.zero_le n, (List.append_nil _).symm⟩
  mark _ h := h
  cfg := rfl

theorem State.unlessShut_outputsGrow {m n : Nat} {s body : State} (h : s.OutputsGrow m n body) :
    s.OutputsGrow m n (s.unlessShut body) := by
  obtain ⟨-, hs⟩ | ⟨-, hs⟩ := s.unlessShut_cases body <;> rw [hs]
  · exact s.refuse_outputsGrow _
  · exact h

theorem State.sampleForward_outputsGrow {m n : Nat} (s : State) (time : Nat) :
    s.OutputsGrow m n (s.sampleForward time) := by
  unfold State.sampleForward
  split
  · exact .refl s
  · exact .of_eq rfl rfl rfl rfl

/-- An edge appends nothing: the decoder writes four registers alone. -/
theorem State.takeEdge_outputsGrow {m n : Nat} (s : State) (l : Level) : s.OutputsGrow m n (s.takeEdge l) := by
  rw [s.takeEdge_frame l]
  exact .of_eq rfl rfl rfl rfl

theorem State.tickPolicy_outputsGrow {n : Nat} (s : State) (st : SessionState) (e : Nat) :
    s.OutputsGrow 1 n (s.tickPolicy st e) := by
  obtain ⟨-, h⟩ | ⟨-, -, h⟩ | ⟨-, -, h⟩ | ⟨-, -, h⟩ | ⟨-, -, h⟩ := s.tickPolicy_cases st e <;> rw [h]
  case inl => exact .refl s
  case inr.inr.inr.inr => exact .of_eq rfl rfl rfl rfl
  all_goals exact s.report_outputsGrow _ _

theorem State.tickStep_outputsGrow {n : Nat} (s : State) : s.OutputsGrow 1 n s.tickStep := by
  refine State.unlessShut_outputsGrow ?_
  split
  · exact .of_eq rfl rfl rfl rfl
  · exact s.tickPolicy_outputsGrow _ _

/-- Without a snapshot a split tick has no second step. -/
theorem State.finishTick_of_none {s : State} (h : s.tickSnap = none) : s.finishTick = s := by
  simp [State.finishTick, h]

/-- With a snapshot the second step applies the policy to it and clears it. -/
theorem State.finishTick_of_some {s : State} {snap : TickSnapshot} (h : s.tickSnap = some snap) :
    s.finishTick = { s.tickPolicy snap.state snap.elapsed with tickSnap := none } := by
  simp [State.finishTick, h]

theorem State.finishTick_outputsGrow {n : Nat} (s : State) : s.OutputsGrow 1 n s.finishTick := by
  cases h : s.tickSnap with
  | none => rw [State.finishTick_of_none h]; exact .refl s
  | some snap =>
    obtain ⟨hd, hr, hm, hc⟩ := s.tickPolicy_outputsGrow (n := n) snap.state snap.elapsed
    rw [State.finishTick_of_some h]
    exact ⟨hd, hr, hm, hc⟩

theorem State.returnIfReady_outputsGrow {m : Nat} (s : State) : s.OutputsGrow m 1 s.returnIfReady := by
  unfold State.returnIfReady
  split
  · obtain ⟨hd, hr, hm, hc⟩ := State.pushResult_outputsGrow (m := m) { s with port := .free } (.frame s.response)
    exact ⟨hd, hr, hm, hc⟩
  · exact .of_eq rfl rfl rfl rfl

/-- A pass of SEND_AND_WAIT's loop: the tick gives at most the DONE, the loop's test at most the result. -/
theorem State.waitStep_outputsGrow (s : State) : s.OutputsGrow 1 1 s.waitStep := by
  have after {u : State} (h : s.OutputsGrow 1 0 u) :
      s.OutputsGrow 1 1 (if u.tickSnap.isSome = true then u else u.returnIfReady) := by
    split
    · exact h.mono le_rfl (Nat.zero_le 1)
    · exact h.trans (m' := 0) u.returnIfReady_outputsGrow
  unfold State.waitStep
  cases s.tickSnap with
  | none => exact after s.tickStep_outputsGrow
  | some _ => exact after s.finishTick_outputsGrow

theorem State.finishTransmit_outputsGrow {m : Nat} (s : State) : s.OutputsGrow m 1 s.finishTransmit := by
  unfold State.finishTransmit
  split
  · exact .of_eq rfl rfl rfl rfl
  · exact ⟨⟨[], Nat.zero_le m, (List.append_nil _).symm⟩, ⟨[.accepted true], le_rfl, rfl⟩, fun _ h => h, rfl⟩

/-- An instruction appends at most one DONE and one result, and keeps a mark and the parameters. -/
theorem exec_outputsGrow {i : Instr} {s t : State} (h : exec i s = .next t) : s.OutputsGrow 1 1 t := by
  cases i with
  | tempToF88 v =>
    simp only [exec, execTempToF88] at h
    split at h <;> cases h
    · exact s.pushResult_outputsGrow _
    · exact s.refuse_outputsGrow _
  | start =>
    cases h
    refine State.unlessShut_outputsGrow ?_
    split
    · exact .of_eq rfl rfl rfl rfl
    · exact s.refuse_outputsGrow _
  | stop => cases h; exact State.unlessShut_outputsGrow (.of_eq rfl rfl rfl rfl)
  | send f | sendAndWait f =>
    cases h
    refine State.unlessShut_outputsGrow ?_
    split
    · exact .of_eq rfl rfl rfl rfl
    · exact s.pushResult_outputsGrow _
  | tick => cases h; exact s.tickStep_outputsGrow
  | readStatus => cases h; exact State.unlessShut_outputsGrow (s.pushResult_outputsGrow _)
  | transmit f =>
    simp only [exec, execTransmit] at h
    split at h <;> cases h
    · exact .of_eq rfl rfl rfl rfl
    · exact s.finishTransmit_outputsGrow
  | edge l => cases h; exact s.takeEdge_outputsGrow l
  | reserved01110 | reserved01111 | reserved10110 | reserved10111 | reserved11xxx _ =>
    cases h; exact s.refuse_outputsGrow _
  | frameReadData | frameWriteData | frameInvalidData | frameReserved | frameReadAck | frameWriteAck
  | frameDataInvalid | frameUnknownDataId => cases h; exact .of_eq rfl rfl rfl rfl
  | _ => cases h; exact s.pushResult_outputsGrow _

/-! ### Each step -/

/-- What an event asks for keeps the outputs: before an instruction nothing has been appended, and a completed move has
appended at most one DONE and one result. -/
def Fetched.OutputsGrow (s : State) : Fetched → Prop
  | .run _ t => s.OutputsGrow 0 0 t
  | .moved t => s.OutputsGrow 1 1 t
  | .stuck _ => True

theorem runAt_outputsGrow (i : Instr) (n : Nat) (s : State) : (runAt i n s).OutputsGrow s := by
  unfold runAt
  split
  · exact s.refuse_outputsGrow _
  · exact s.sampleForward_outputsGrow n

theorem resumeAt_outputsGrow (n : Nat) (s : State) : (resumeAt n s).OutputsGrow s := by
  have sampled {m k : Nat} : s.OutputsGrow m k (s.sample n) := .of_eq rfl rfl rfl rfl
  unfold resumeAt
  split
  · exact s.refuse_outputsGrow _
  split
  · exact sampled
  cases s.port with
  | tx => exact sampled
  | wake => exact .of_eq rfl rfl rfl rfl
  | wait => exact (sampled (m := 0) (k := 0)).trans (s.sample n).waitStep_outputsGrow
  | free => exact (sampled (m := 0) (k := 0)).trans ((s.sample n).finishTick_outputsGrow (n := 1))

theorem fetchEvent_outputsGrow (e : Event) (s : State) : (fetchEvent e s).OutputsGrow s := by
  unfold fetchEvent
  cases e.input with
  | command w v =>
    dsimp only
    split
    · trivial
    · exact runAt_outputsGrow _ _ s
  | edge w =>
    dsimp only
    split
    · exact runAt_outputsGrow _ _ s
    · trivial
  | resume => exact resumeAt_outputsGrow _ s
  | frame f => exact runAt_outputsGrow _ _ s
  | reset => exact .of_eq rfl rfl rfl rfl

/-- With an event to come, that event is what is fetched. -/
theorem fetch_cons {s : State} {e : Event} {rest : List Event} (h : s.inputs = e :: rest) :
    fetch s = fetchEvent e { s with inputs := rest } := by
  simp [fetch, h]

/-- With no event to come nothing happens. -/
theorem fetch_nil {s : State} (h : s.inputs = []) : fetch s = .moved s := by
  simp [fetch, h]

theorem fetch_outputsGrow (s : State) : (fetch s).OutputsGrow s := by
  cases h : s.inputs with
  | nil => rw [fetch_nil h]; exact .refl s
  | cons e rest =>
    have grow := fetchEvent_outputsGrow e { s with inputs := rest }
    rw [fetch_cons h]
    cases hf : fetchEvent e { s with inputs := rest } with
    | run i t => rw [hf] at grow; exact .of_inputs grow
    | moved t => rw [hf] at grow; exact .of_inputs grow
    | stuck f => trivial

theorem step_outputsGrow {s t : State} (h : step s = .next t) : s.OutputsGrow 1 1 t := by
  have grow := fetch_outputsGrow s
  obtain ⟨i, u, hf, hs⟩ | ⟨u, hf, hs⟩ | ⟨f, hf, hs⟩ := step_of_fetch s <;> rw [hf] at grow <;> rw [hs] at h
  · exact State.OutputsGrow.trans grow (exec_outputsGrow h)
  · cases h; exact grow
  · cases h

/-! ### The end of a run -/

theorem Input.listed_eq_false_iff (i : Input) : i.listed = false ↔ i = .resume ∨ i = .reset := by
  cases i <;> simp [Input.listed]

theorem State.busy_eq_false_iff (s : State) : s.busy = false ↔ s.port = .free ∧ s.tickSnap = none := by
  simp [State.busy]

theorem State.runEnded_iff (s : State) :
    s.runEnded = true ↔
      s.port = .free ∧ s.tickSnap = none ∧ ∀ e ∈ s.inputs, e.input = .resume ∨ e.input = .reset := by
  simp [State.runEnded, State.busy_eq_false_iff, Input.listed_eq_false_iff, and_assoc]

/-- A move of a polling agent that nothing occupies samples the clock and changes nothing else. -/
theorem resumeAt_of_free {n : Nat} {s : State} (hport : s.port = .free) (hsnap : s.tickSnap = none) (hn : s.now ≤ n) :
    resumeAt n s = .moved (s.sample n) := by
  have idle : (s.sample n).finishTick = s.sample n := State.finishTick_of_none hsnap
  simp [resumeAt, hport, idle, Nat.not_lt.mpr hn]

/-- After the end of a run, a step that is no reset and meets the clock premise leaves the end and the end state. -/
theorem step_of_runEnded {s t : State} (hend : s.runEnded = true) (hs : step s = .next t)
    (hhead : ∀ e ∈ s.inputs.head?, e.input ≠ .reset ∧ s.now ≤ s.clockInput e.time) :
    t.endState = s.endState ∧ t.runEnded = true := by
  obtain ⟨hport, hsnap, hin⟩ := s.runEnded_iff.mp hend
  cases h : s.inputs with
  | nil =>
    simp only [step, fetch_nil h] at hs
    cases hs
    exact ⟨rfl, hend⟩
  | cons e rest =>
    obtain ⟨hne, hnow⟩ := hhead e (by simp [h])
    have hresume : e.input = .resume := (hin e (by simp [h])).resolve_right hne
    have hfetch : fetch s = .moved (({ s with inputs := rest } : State).sample (s.clockInput e.time)) := by
      rw [fetch_cons h, fetchEvent, hresume]
      exact resumeAt_of_free hport hsnap hnow
    simp only [step, hfetch] at hs
    cases hs
    refine ⟨rfl, (State.runEnded_iff _).mpr ⟨hport, hsnap, fun x hx => hin x ?_⟩⟩
    rw [h]
    exact List.mem_cons_of_mem e hx

/-! ### The run to the end -/

/-- The state `t` after `k` steps from `s` is the first end of the run, with end state `e`. -/
def State.FirstEndAt (k : Nat) (s t : State) (e : EndState) : Prop :=
  core.run k s = .next t ∧ t.runEnded = true ∧ t.endState = e ∧
    ∀ (j : Nat) (u : State), j < k → core.run j s = .next u → u.runEnded = false

/-- A run of one step more is a step and the run from there. -/
theorem core_run_succ (k : Nat) (s t : State) :
    core.run (k + 1) s = .next t ↔ ∃ u, step s = .next u ∧ core.run k u = .next t := by
  simp only [Host.Core.run, Host.Check.core_step]
  cases step s <;> simp

theorem State.firstEndAt_zero (s t : State) (e : EndState) :
    s.FirstEndAt 0 t e ↔ t = s ∧ s.runEnded = true ∧ s.endState = e := by
  constructor
  · rintro ⟨⟨⟩, hend, he, -⟩
    exact ⟨rfl, hend, he⟩
  · rintro ⟨rfl, hend, he⟩
    exact ⟨rfl, hend, he, fun _ _ hj => absurd hj (Nat.not_lt_zero _)⟩

theorem State.firstEndAt_succ (k : Nat) (s t : State) (e : EndState) :
    s.FirstEndAt (k + 1) t e ↔ s.runEnded = false ∧ ∃ u, step s = .next u ∧ u.FirstEndAt k t e := by
  constructor
  · rintro ⟨hrun, hend, he, hfirst⟩
    obtain ⟨u, hu, hrun⟩ := (core_run_succ k s t).mp hrun
    exact ⟨hfirst 0 s (Nat.succ_pos k) rfl, u, hu, hrun, hend, he, fun j v hj hv =>
      hfirst (j + 1) v (Nat.succ_lt_succ hj) ((core_run_succ j s v).mpr ⟨u, hu, hv⟩)⟩
  · rintro ⟨hs, u, hu, hrun, hend, he, hfirst⟩
    refine ⟨(core_run_succ k s t).mpr ⟨u, hu, hrun⟩, hend, he, fun j v hj hv => ?_⟩
    cases j with
    | zero => cases hv; exact hs
    | succ j =>
      obtain ⟨w, hw, hv⟩ := (core_run_succ j s v).mp hv
      cases hu.symm.trans hw
      exact hfirst j v (Nat.lt_of_succ_lt_succ hj) hv

/-- Only a state that has ended has its first end at once. -/
theorem State.firstEndAt_of_ended {k : Nat} {s t : State} {e : EndState} (hend : s.runEnded = true) :
    s.FirstEndAt k t e ↔ k = 0 ∧ t = s ∧ s.endState = e := by
  cases k with
  | zero => simp [State.firstEndAt_zero, hend]
  | succ k => simp [State.firstEndAt_succ, hend]

/-- A run that has not ended has its first end where the run from its next state has it. -/
theorem State.exists_firstEndAt_succ {n : Nat} {s : State} {e : EndState} (hend : s.runEnded = false) :
    (∃ (k : Nat) (t : State), k ≤ n + 1 ∧ s.FirstEndAt k t e) ↔
      ∃ u, step s = .next u ∧ ∃ (k : Nat) (t : State), k ≤ n ∧ u.FirstEndAt k t e := by
  constructor
  · rintro ⟨k, t, hk, hfirst⟩
    cases k with
    | zero => simp [State.firstEndAt_zero, hend] at hfirst
    | succ k =>
      obtain ⟨-, u, hu, hfirst⟩ := (State.firstEndAt_succ k s t e).mp hfirst
      exact ⟨u, hu, k, t, Nat.le_of_succ_le_succ hk, hfirst⟩
  · rintro ⟨u, hu, k, t, hk, hfirst⟩
    exact ⟨k + 1, t, Nat.succ_le_succ hk, (State.firstEndAt_succ k s t e).mpr ⟨hend, u, hu, hfirst⟩⟩

/-- `runToEnd` answers the end state of the first end within its steps. -/
theorem runToEnd_eq_next_iff (n : Nat) (s : State) (e : EndState) :
    runToEnd n s = some (.next e) ↔ ∃ (k : Nat) (t : State), k ≤ n ∧ s.FirstEndAt k t e := by
  induction n generalizing s with
  | zero =>
    cases hend : s.runEnded with
    | true => simp [runToEnd_of_ended 0 hend, State.firstEndAt_of_ended hend]
    | false => simp [runToEnd_zero hend, State.firstEndAt_zero, hend]
  | succ n ih =>
    cases hend : s.runEnded with
    | true => simp [runToEnd_of_ended (n + 1) hend, State.firstEndAt_of_ended hend]
    | false =>
      rw [State.exists_firstEndAt_succ hend]
      cases hs : step s with
      | next u => simp [runToEnd_of_step n hend hs, ih]
      | fault f => simp [runToEnd, hend, hs]
      | refused r => simp [runToEnd, hend, hs]

/-- Settles O48: `step_outputsGrow` for the outputs, `runToEnd_eq_next_iff`, by induction on the steps, for the first end, and
`step_of_runEnded` for what comes after it. -/
theorem outputsOnlyGrow : Obligations.OutputsOnlyGrow := by
  unfold Obligations.OutputsOnlyGrow
  refine ⟨fun s t h => ?_, State.runEnded_iff, runToEnd_eq_next_iff, fun s t => step_of_runEnded⟩
  obtain ⟨hdone, hresult, hmark, hcfg⟩ := step_outputsGrow h
  exact ⟨hdone, hresult, hmark, hcfg⟩

end Sys2Proof.Machine
end

section
/-!
SUPPORT. What one step can do: it takes an event, samples the clock, and makes one of the moves of `State.Moves`
(`step_moves`).
-/

namespace Sys2Proof.Machine

/-! ### The next event -/

/-- A step whose event asks for an instruction runs it. -/
theorem step_of_run {s t : State} {i : Instr} (h : fetch s = .run i t) : step s = exec i t := by
  simp [step, h]

/-- A step whose event is complete in itself answers that state. -/
theorem step_of_moved {s t : State} (h : fetch s = .moved t) : step s = .next t := by
  simp [step, h]

/-- A step whose event has no move stops the machine. -/
theorem step_of_stuck {s : State} {f : Fault} (h : fetch s = .stuck f) : step s = .fault f := by
  simp [step, h]

/-- While the clock premise holds, an instruction runs at the sampled clock (R74). -/
theorem runAt_of_le {i : Instr} {time : Nat} {s : State} (hnow : s.now ≤ time) (htime : time < 2 ^ s.cfg.clockWidth) :
    runAt i (s.clockInput time) s = .run i (s.sample time) := by
  simp [runAt, State.sampleForward, s.clockInput_of_lt time htime, Nat.not_lt.mpr hnow]

/-- A command at an occupied polling agent has no move. -/
theorem fetchEvent_command_of_busy {s : State} (time : Nat) (w : CommandWord) (v : Value) (h : s.busy = true) :
    fetchEvent { time := time, input := .command w v } s = .stuck .commandWhileBusy := by
  simp [fetchEvent, h]

/-- A command at a free polling agent runs its instruction at the clock value that its step samples. -/
theorem fetchEvent_command_of_free {s : State} (time : Nat) (w : CommandWord) (v : Value) (h : s.busy = false) :
    fetchEvent { time := time, input := .command w v } s = runAt (decodeCommand w v) (s.clockInput time) s := by
  simp [fetchEvent, h]

/-- A word of the edge-event input whose code is not EDGE's has no move. -/
theorem fetchEvent_edge_of_ne {w : CommandWord} (s : State) (time : Nat) (h : opField w ≠ 0b11001#5) :
    fetchEvent { time := time, input := .edge w } s = .stuck .notAnEdgeWord := by
  simp [fetchEvent, decode, h]

/-- A reset event is a step of its own. -/
theorem step_of_reset {s : State} {rest : List Event} {time : Nat}
    (h : s.inputs = { time := time, input := .reset } :: rest) :
    step s = .next ({ s with inputs := rest } : State).hostReset :=
  step_of_moved (fetch_cons h)

/-! ### A tick, whole or split -/

/-- The next step of a TICK: the second step of a split one that is under way, else the first (R186, R192). -/
def State.tickMove (s : State) : State := if s.tickSnap.isSome = true then s.finishTick else s.tickStep

/-- With no tick under way the next step of a TICK is its first. -/
theorem State.tickMove_of_none {s : State} (h : s.tickSnap = none) : s.tickMove = s.tickStep := by
  simp [State.tickMove, h]

/-- With a tick under way the next step of a TICK is its second. -/
theorem State.tickMove_of_some {s : State} {snap : TickSnapshot} (h : s.tickSnap = some snap) :
    s.tickMove = s.finishTick := by
  simp [State.tickMove, h]

/-- A pass of SEND_AND_WAIT's loop is the next step of a TICK, and the loop's test unless a tick is then under way. -/
theorem State.waitStep_eq (s : State) :
    s.waitStep = if s.tickMove.tickSnap.isSome = true then s.tickMove else s.tickMove.returnIfReady := by
  cases h : s.tickSnap <;> simp [State.waitStep, State.tickMove, h]

/-- What the next step of a TICK can do: be refused, take the snapshot of a split tick, or apply the policy, to the state
as it is or to the snapshot. -/
theorem State.tickMove_cases (s : State) :
    (s.tickSnap = none ∧ s.tickMove = s.refuse .engineStopped) ∨
    (s.tickSnap = none ∧ s.tickMove = s.snapshotTick) ∨
    ∃ st e, (s.tickSnap = none ∧ st = s.state ∨ s.tickSnap = some { state := st, elapsed := e }) ∧
      s.tickMove = { s.tickPolicy st e with tickSnap := none } := by
  cases h : s.tickSnap with
  | some snap => exact .inr (.inr ⟨_, _, .inr rfl, by rw [tickMove_of_some h, finishTick_of_some h]⟩)
  | none =>
    rw [tickMove_of_none h, State.tickStep]
    obtain ⟨-, hs⟩ | ⟨-, hs⟩ := s.unlessShut_cases
      (if s.cfg.tickSplitPhase = true then s.snapshotTick else s.tickPolicy s.state (s.elapsed s.ts)) <;> rw [hs]
    · exact .inl ⟨rfl, rfl⟩
    split
    · exact .inr (.inl ⟨rfl, rfl⟩)
    · refine .inr (.inr ⟨_, s.elapsed s.ts, .inl ⟨rfl, rfl⟩, ?_⟩)
      rw [s.tickPolicy_frame, h]

/-- The next step of a TICK writes what the policy writes, the snapshot, the hold and the mark, and nothing else. -/
theorem State.tickMove_frame (s : State) :
    s.tickMove = { s with state := s.tickMove.state, outcome := s.tickMove.outcome, doneLog := s.tickMove.doneLog,
                          tickSnap := s.tickMove.tickSnap, holdUntil := s.tickMove.holdUntil,
                          mark := s.tickMove.mark } := by
  obtain ⟨-, h⟩ | ⟨-, h⟩ | ⟨st, e, -, h⟩ := s.tickMove_cases <;> rw [h]
  · rfl
  · rfl
  · rw [s.tickPolicy_frame]

/-- The policy of TICK leaves the session state and its outcome, or closes an open exchange or a quiet period: the state is
then READY or QUIET_PERIOD. -/
theorem State.tickPolicy_state (s : State) (st : SessionState) (e : Nat) :
    ((s.tickPolicy st e).state = s.state ∧ (s.tickPolicy st e).outcome = s.outcome) ∨
    ((st.eligible = true ∨ st = .quietPeriod) ∧
      ((s.tickPolicy st e).state = .ready ∨ (s.tickPolicy st e).state = .quietPeriod)) := by
  obtain ⟨-, h⟩ | ⟨hst, -, h⟩ | ⟨hst, -, h⟩ | ⟨hst, -, h⟩ | ⟨hst, -, h⟩ := s.tickPolicy_cases st e <;> rw [h]
  case inl => exact .inl ⟨rfl, rfl⟩
  case inr.inl => exact .inr ⟨.inl hst, .inl rfl⟩
  case inr.inr.inr.inr => exact .inr ⟨.inr hst, .inl rfl⟩
  all_goals exact .inr ⟨.inl (by rw [hst]; rfl), .inr rfl⟩

/-! ### What a step can do -/

/-- The step has taken an event off and sampled the clock: the sample does not go down, and fits the clock if it did before
(R74). -/
def State.EventTaken (s u : State) : Prop :=
  ∃ q n, u = { s with inputs := q, now := n } ∧ s.now ≤ n ∧
    (s.now < 2 ^ s.cfg.clockWidth → n < 2 ^ s.cfg.clockWidth)

/-- What a step can do once its event is taken and the clock sampled, with the guards under which it can be done (R67). -/
inductive State.Moves (s : State) : State → Prop
  /-- a result, a refusal, edges put among the events to come, or nothing -/
  | outputs (q : List Event) (r : List CommandResult) (m : Option RefusalReason) :
      s.Moves { s with inputs := q, resultLog := r, mark := m }
  /-- a reset of the host (R250) -/
  | reset : s.Moves s.hostReset
  /-- START's first step (R180) -/
  | beginStart : s.port = .free → s.tickSnap = none → s.shut = false → s.state = .uninitialized →
      s.Moves s.beginStart
  /-- START's completion (R181) -/
  | finishStart : s.port = .wake → s.Moves s.finishStart
  /-- STOP (R182) -/
  | stop : s.port = .free → s.tickSnap = none → s.shut = false → s.Moves { s with edgeEn := false, shut := true }
  /-- an accepted SEND or SEND_AND_WAIT (R183, R185) -/
  | beginExchange (f : Frame) (wait : Bool) : s.port = .free → s.tickSnap = none → s.shut = false →
      s.state = .ready → s.Moves (s.beginExchange f wait)
  /-- one half-bit (R140) -/
  | driveHalfBit (f : Frame) : s.port = .tx → s.txH < 68#7 → s.Moves (s.driveHalfBit f)
  /-- the end of a transmission (R143, R184) -/
  | finishTransmit : s.port = .tx → ¬ s.txH < 68#7 → s.Moves s.finishTransmit
  /-- an edge (R150) -/
  | takeEdge (l : Level) : s.Moves (s.takeEdge l)
  /-- a step of a TICK command (R186, R192) -/
  | tickMove : s.port = .free → s.Moves s.tickMove
  /-- a pass of SEND_AND_WAIT's loop (R185) -/
  | waitStep : s.port = .wait → s.Moves s.waitStep

/-- Where an instruction can be run: a command at a free polling agent (R31), TRANSMIT while the port is TX (R140), an edge
and a frame anywhere (R67). -/
def State.Admits (s : State) : Instr → Prop
  | .transmit _ => s.port = .tx
  | .edge _ | .frameReadData .. | .frameWriteData .. | .frameInvalidData .. | .frameReserved .. | .frameReadAck ..
  | .frameWriteAck .. | .frameDataInvalid .. | .frameUnknownDataId .. => True
  | _ => s.busy = false

/-- A session command's step is a move if what it does before STOP is one; after STOP it is a refusal. -/
theorem State.Moves.unlessShut {s body : State} (h : s.shut = false → s.Moves body) : s.Moves (s.unlessShut body) := by
  obtain ⟨-, hs⟩ | ⟨hshut, hs⟩ := s.unlessShut_cases body <;> rw [hs]
  · exact .outputs _ _ _
  · exact h hshut

/-- What an instruction can do where it can be run. -/
theorem exec_moves {i : Instr} {s t : State} (hadmits : s.Admits i) (h : exec i s = .next t) : s.Moves t := by
  cases i with
  | tempToF88 v =>
    simp only [exec, execTempToF88] at h
    split at h <;> cases h <;> exact .outputs _ _ _
  | start =>
    obtain ⟨hport, hsnap⟩ := s.busy_eq_false_iff.mp hadmits
    cases h
    refine .unlessShut fun hshut => ?_
    split
    next hstate => exact .beginStart hport hsnap hshut hstate
    next => exact .outputs _ _ _
  | stop =>
    obtain ⟨hport, hsnap⟩ := s.busy_eq_false_iff.mp hadmits
    cases h
    exact .unlessShut (.stop hport hsnap)
  | send f | sendAndWait f =>
    obtain ⟨hport, hsnap⟩ := s.busy_eq_false_iff.mp hadmits
    cases h
    refine .unlessShut fun hshut => ?_
    split
    next hstate => exact .beginExchange f _ hport hsnap hshut hstate
    next => exact .outputs _ _ _
  | tick =>
    obtain ⟨hport, hsnap⟩ := s.busy_eq_false_iff.mp hadmits
    cases h
    exact State.tickMove_of_none hsnap ▸ .tickMove hport
  | readStatus => cases h; exact .unlessShut fun _ => .outputs _ _ _
  | transmit f =>
    simp only [exec, execTransmit] at h
    split at h <;> cases h
    next hlt => exact .driveHalfBit f hadmits hlt
    next hge => exact .finishTransmit hadmits hge
  | edge l => cases h; exact .takeEdge l
  | _ => cases h; exact .outputs _ _ _

/-- The command port carries no TRANSMIT, no EDGE and no frame, so a free polling agent is all that a command needs. -/
theorem State.admits_decodeCommand {s : State} (w : CommandWord) (v : Value) (h : s.busy = false) :
    s.Admits (decodeCommand w v) := by
  unfold decodeCommand
  split <;> exact h

/-- A frame on the line can come in every state. -/
theorem State.admits_decodeFrame (s : State) (f : Frame) : s.Admits (decodeFrame f) := by
  unfold decodeFrame
  split <;> trivial

/-- Where an instruction can be run does not depend on the clock. -/
theorem State.admits_sampleForward {s : State} {i : Instr} (n : Nat) (h : s.Admits i) : (s.sampleForward n).Admits i := by
  unfold State.sampleForward
  split
  · exact h
  · cases i <;> exact h

/-- What an event asks for is something that a step can do once the event is taken. -/
def Fetched.Moves (s : State) : Fetched → Prop
  | .run i u => s.EventTaken u ∧ u.Admits i
  | .moved t => ∃ u, s.EventTaken u ∧ u.Moves t
  | .stuck _ => True

theorem State.EventTaken.unsampled (s : State) : s.EventTaken s := ⟨s.inputs, s.now, rfl, le_rfl, id⟩

theorem State.EventTaken.sample {s : State} {time : Nat} (h : ¬ s.clockInput time < s.now) :
    s.EventTaken (s.sample (s.clockInput time)) :=
  ⟨s.inputs, _, rfl, Nat.not_lt.mp h, fun _ => s.clockInput_lt time⟩

theorem State.EventTaken.sampleForward (s : State) (time : Nat) :
    s.EventTaken (s.sampleForward (s.clockInput time)) := by
  unfold State.sampleForward
  split
  · exact .unsampled s
  next h => exact .sample h

theorem runAt_moves {i : Instr} {s : State} (time : Nat) (h : s.Admits i) :
    (runAt i (s.clockInput time) s).Moves s := by
  unfold runAt
  split
  · exact ⟨s, .unsampled s, .outputs _ _ _⟩
  · exact ⟨.sampleForward s time, State.admits_sampleForward _ h⟩

/-- With a free port the polling agent's move is the second step of a split TICK, or nothing. -/
theorem State.Moves.finishTick {s : State} (h : s.port = .free) : s.Moves s.finishTick := by
  cases hsnap : s.tickSnap with
  | none => rw [State.finishTick_of_none hsnap]; exact .outputs _ _ _
  | some snap => exact State.tickMove_of_some hsnap ▸ .tickMove h

theorem resumeAt_moves (s : State) (time : Nat) : (resumeAt (s.clockInput time) s).Moves s := by
  unfold resumeAt
  split
  · exact ⟨s, .unsampled s, .outputs _ _ _⟩
  next hback =>
    have taken := State.EventTaken.sample hback
    split
    · exact ⟨_, taken, .outputs _ _ _⟩
    cases hport : s.port with
    | tx => exact ⟨taken, hport⟩
    | wake => exact ⟨_, taken, .finishStart hport⟩
    | wait => exact ⟨_, taken, .waitStep hport⟩
    | free => exact ⟨_, taken, .finishTick hport⟩

theorem fetchEvent_moves (e : Event) (s : State) : (fetchEvent e s).Moves s := by
  obtain ⟨time, input⟩ := e
  cases input with
  | command w v =>
    cases hbusy : s.busy with
    | true => rw [fetchEvent_command_of_busy time w v hbusy]; trivial
    | false =>
      rw [fetchEvent_command_of_free time w v hbusy]
      exact runAt_moves time (s.admits_decodeCommand w v hbusy)
  | edge w =>
    by_cases hop : opField w = 0b11001#5
    · simp only [fetchEvent, decode, hop, if_true]
      exact runAt_moves time trivial
    · rw [fetchEvent_edge_of_ne s time hop]; trivial
  | resume => exact resumeAt_moves s time
  | frame f => exact runAt_moves time (s.admits_decodeFrame f)
  | reset => exact ⟨s, .unsampled s, .reset⟩

theorem fetch_moves (s : State) : (fetch s).Moves s := by
  cases h : s.inputs with
  | nil => rw [fetch_nil h]; exact ⟨s, .unsampled s, .outputs _ _ _⟩
  | cons e rest =>
    have moves := fetchEvent_moves e { s with inputs := rest }
    have untaken {u : State} (hu : ({ s with inputs := rest } : State).EventTaken u) : s.EventTaken u := hu
    rw [fetch_cons h]
    cases hf : fetchEvent e { s with inputs := rest } with
    | run i u => rw [hf] at moves; exact moves
    | moved t => rw [hf] at moves; exact moves
    | stuck f => trivial

/-- What a step can do: it takes its event and samples the clock, and makes one of the moves (R67). -/
theorem step_moves {s t : State} (h : step s = .next t) : ∃ u, s.EventTaken u ∧ u.Moves t := by
  have moves := fetch_moves s
  obtain ⟨i, u, hf, hs⟩ | ⟨u, hf, hs⟩ | ⟨f, hf, hs⟩ := step_of_fetch s <;> rw [hf] at moves <;> rw [hs] at h
  · obtain ⟨taken, admits⟩ := moves
    exact ⟨u, taken, exec_moves admits h⟩
  · cases h; exact moves
  · cases h

end Sys2Proof.Machine
end

section
/-!
SUPPORT. The three invariants of Safety.lean, each kept by every move of `State.Moves`.
-/

namespace Sys2Proof.Machine

/-! ### The clock invariant -/

/-- The loop's test writes the port, the result output and the hold, and nothing else. -/
theorem State.returnIfReady_frame (s : State) :
    s.returnIfReady = { s with port := s.returnIfReady.port, resultLog := s.returnIfReady.resultLog,
                               holdUntil := s.returnIfReady.holdUntil } := by
  unfold State.returnIfReady
  split <;> rfl

/-- A pass of SEND_AND_WAIT's loop writes what a TICK writes, the port and the result output, and nothing else. -/
theorem State.waitStep_frame (s : State) :
    s.waitStep = { s with state := s.waitStep.state, outcome := s.waitStep.outcome, doneLog := s.waitStep.doneLog,
                          tickSnap := s.waitStep.tickSnap, holdUntil := s.waitStep.holdUntil, mark := s.waitStep.mark,
                          port := s.waitStep.port, resultLog := s.waitStep.resultLog } := by
  rw [s.waitStep_eq]
  split
  · rw [s.tickMove_frame]
  · rw [s.tickMove.returnIfReady_frame, s.tickMove_frame]

theorem State.finishTransmit_frame (s : State) :
    s.finishTransmit = { s with state := .awaitingStart, txLine := .idle, ts := s.now, holdUntil := s.now,
                                port := s.finishTransmit.port, resultLog := s.finishTransmit.resultLog } := by
  unfold State.finishTransmit
  split <;> rfl

/-- No move changes the clock sample or the parameters. -/
theorem State.Moves.clock_eq {s t : State} (h : s.Moves t) : t.now = s.now ∧ t.cfg = s.cfg := by
  cases h with
  | takeEdge l => rw [s.takeEdge_frame l]; exact ⟨rfl, rfl⟩
  | tickMove => rw [s.tickMove_frame]; exact ⟨rfl, rfl⟩
  | waitStep => rw [s.waitStep_frame]; exact ⟨rfl, rfl⟩
  | finishTransmit => rw [s.finishTransmit_frame]; exact ⟨rfl, rfl⟩
  | _ => exact ⟨rfl, rfl⟩

theorem State.takeEdge_ts (s : State) (l : Level) : (s.takeEdge l).ts = s.ts ∨ (s.takeEdge l).ts = s.now := by
  rcases s.takeEdge_cases l with ⟨-, h⟩ | ⟨-, -, -, h⟩ | ⟨-, -, -, h⟩ | ⟨-, -, -, h⟩ | ⟨-, -, -, h⟩ | ⟨-, -, -, h⟩ |
    ⟨-, -, -, h⟩ | ⟨-, -, -, h⟩ <;> simp [h]

/-- A move leaves the timestamp, clears it, or takes it from the clock. -/
theorem State.Moves.ts_eq {s t : State} (h : s.Moves t) : t.ts = s.ts ∨ t.ts = 0 ∨ t.ts = s.now := by
  cases h with
  | reset => exact .inr (.inl rfl)
  | takeEdge l => exact (s.takeEdge_ts l).imp_right .inr
  | tickMove => rw [s.tickMove_frame]; exact .inl rfl
  | waitStep => rw [s.waitStep_frame]; exact .inl rfl
  | finishTransmit => rw [s.finishTransmit_frame]; exact .inr (.inr rfl)
  | _ => exact .inl rfl

theorem State.ClockInv.eventTaken {s u : State} (hs : s.ClockInv) (h : s.EventTaken u) : u.ClockInv ∧ s.now ≤ u.now := by
  obtain ⟨q, n, rfl, hle, hfits⟩ := h
  exact ⟨⟨hfits hs.1, hs.2.trans hle⟩, hle⟩

theorem State.ClockInv.moves {s t : State} (hs : s.ClockInv) (h : s.Moves t) : t.ClockInv := by
  obtain ⟨hfits, hts⟩ := hs
  obtain ⟨hnow, hcfg⟩ := h.clock_eq
  refine ⟨by rwa [hnow, hcfg], ?_⟩
  obtain h | h | h := h.ts_eq <;> omega

/-- Settles O59: taking the event moves the sample forward, and a move keeps it and takes `ts` from it. -/
theorem clockInvariantKept : Obligations.ClockInvariantKept := by
  unfold Obligations.ClockInvariantKept
  intro s t hs hstep
  obtain ⟨u, taken, moves⟩ := step_moves hstep
  obtain ⟨hu, hle⟩ := hs.eventTaken taken
  exact ⟨hu.moves moves, moves.clock_eq.1 ▸ hle⟩

/-! ### The control invariant -/

/-- While the port is TX or WAKE no split TICK is under way (R192). -/
theorem State.ControlInv.tickSnap_eq_none {s : State} (h : s.ControlInv) (hp : s.port = .tx ∨ s.port = .wake) :
    s.tickSnap = none := by
  obtain ⟨-, -, -, -, hsnap⟩ := h
  cases hs : s.tickSnap with
  | none => rfl
  | some snap =>
    obtain ⟨hport, -⟩ := hsnap snap hs
    obtain hport | hport := hport <;> simp [hport] at hp

/-- With no split TICK under way there is no snapshot to fit. -/
theorem State.snapMatches_of_none {s : State} (h : s.tickSnap = none) : s.SnapMatches := by
  simp [State.SnapMatches, h]

theorem State.ControlInv.beginStart {s : State} (h : s.ControlInv) (hsnap : s.tickSnap = none) (hshut : s.shut = false)
    (hstate : s.state = .uninitialized) : s.beginStart.ControlInv := by
  obtain ⟨hport, hen, hline, hout, -⟩ := h
  refine ⟨?_, ?_, ?_, hout, State.snapMatches_of_none hsnap⟩
  · simp [State.PortMatches, hstate]
  · simp [State.EnableMatches, hshut]
  · simp [State.LineMatches]

theorem State.ControlInv.finishStart {s : State} (h : s.ControlInv) (hp : s.port = .wake) : s.finishStart.ControlInv := by
  have hsnap := h.tickSnap_eq_none (.inr hp)
  obtain ⟨-, ⟨hoff, hwake, -⟩, ⟨hundriven, hactive⟩, -, -⟩ := h
  have hen : s.edgeEn = true := hwake hp
  have hdriven : s.txLine ≠ .undriven := fun hl => by simp [hundriven hl] at hen
  have hidle : s.txLine ≠ .active := fun hl => by simp [hactive hl] at hp
  have hshut : s.shut = false := by simpa [hen] using hoff
  refine ⟨?_, ?_, ?_, ?_, State.snapMatches_of_none hsnap⟩
  · simp [State.PortMatches]
  · simp [State.EnableMatches, hen, hshut]
  · simp [State.LineMatches, hdriven, hidle]
  · simp [State.OutcomeOpen, SessionState.eligible]

theorem State.ControlInv.stop {s : State} (h : s.ControlInv) (hp : s.port = .free) :
    ({ s with edgeEn := false, shut := true } : State).ControlInv := by
  obtain ⟨hport, -, ⟨hundriven, hactive⟩, hout, hsnap⟩ := h
  refine ⟨hport, ?_, ⟨fun hl => ⟨(hundriven hl).1, rfl⟩, hactive⟩, hout, hsnap⟩
  simp [State.EnableMatches, hp]

theorem State.ControlInv.beginExchange {s : State} (f : Frame) (wait : Bool) (h : s.ControlInv)
    (hsnap : s.tickSnap = none) (hshut : s.shut = false) (hstate : s.state = .ready) :
    (s.beginExchange f wait).ControlInv := by
  obtain ⟨-, ⟨-, -, hoff⟩, ⟨hundriven, -⟩, -, -⟩ := h
  have hen : s.edgeEn = true := by simpa [hshut, hstate] using hoff
  have hline : s.txLine ≠ .undriven := fun hl => by simpa [hstate] using hundriven hl
  refine ⟨?_, ?_, ?_, fun _ => rfl, State.snapMatches_of_none hsnap⟩
  · simp [State.PortMatches]
  · simp [State.EnableMatches, hen, hshut]
  · simp [State.LineMatches, hline]

@[simp] theorem TxLine.ofLevel_ne_undriven (l : Level) : TxLine.ofLevel l ≠ .undriven := by
  cases l <;> simp [TxLine.ofLevel]

theorem State.ControlInv.driveHalfBit {s : State} (f : Frame) (h : s.ControlInv) (hp : s.port = .tx) :
    (s.driveHalfBit f).ControlInv := by
  obtain ⟨hport, hen, -, hout, hsnap⟩ := h
  refine ⟨hport, hen, ?_, hout, hsnap⟩
  simp [State.LineMatches, hp]

theorem State.finishTransmit_port (s : State) : s.finishTransmit.port = .free ∨ s.finishTransmit.port = .wait := by
  unfold State.finishTransmit
  split <;> simp

theorem State.ControlInv.finishTransmit {s : State} (h : s.ControlInv) (hp : s.port = .tx) :
    s.finishTransmit.ControlInv := by
  have hsnap := h.tickSnap_eq_none (.inl hp)
  obtain ⟨⟨htx, -⟩, ⟨hshut, -, hoff⟩, -, hout, -⟩ := h
  have hstate : s.state = .sending := htx.mp hp
  have hnone : s.outcome = .none := hout (by rw [hstate]; rfl)
  have hstopped : s.edgeEn = false → s.shut = true := by simpa [hstate] using hoff
  have hport := s.finishTransmit_port
  rw [s.finishTransmit_frame]
  generalize s.finishTransmit.port = p at *
  refine ⟨?_, ⟨hshut, ?_, fun he => .inl (hstopped he)⟩, ?_, fun _ => hnone, State.snapMatches_of_none hsnap⟩
  · obtain rfl | rfl := hport <;> simp [State.PortMatches]
  · obtain rfl | rfl := hport <;> simp
  · simp [State.LineMatches]

/-- Between the end of a transmission and the report of its exchange, and in READY and QUIET_PERIOD, the port is FREE or WAIT. -/
theorem State.ControlInv.port_of_state {s : State} (h : s.ControlInv) (hu : s.state ≠ .uninitialized)
    (hs : s.state ≠ .sending) : s.port = .free ∨ s.port = .wait := by
  obtain ⟨⟨htx, hwake, -⟩, -⟩ := h
  cases hp : s.port with
  | free => exact .inl rfl
  | wait => exact .inr rfl
  | tx => exact absurd (htx.mp hp) hs
  | wake => exact absurd (hwake hp) hu

/-- A move from one session state that is neither UNINITIALIZED nor SENDING to another keeps the invariant, if the port, the
outcome and the snapshot that it leaves fit the new state. -/
theorem State.ControlInv.setState {s : State} {next : SessionState} {p : Port} {o : ExchangeOutcome}
    {k : Option TickSnapshot} (h : s.ControlInv) (hu : s.state ≠ .uninitialized) (hs : s.state ≠ .sending)
    (hu' : next ≠ .uninitialized) (hs' : next ≠ .sending) (hp : p = .free ∨ p = .wait ∧ next ≠ .ready)
    (hout : next.eligible = true → o = .none)
    (hsnap : ({ s with state := next, port := p, tickSnap := k } : State).SnapMatches) :
    ({ s with state := next, port := p, outcome := o, tickSnap := k } : State).ControlInv := by
  obtain ⟨⟨htx, -⟩, ⟨hshut, -, hoff⟩, ⟨hundriven, hactive⟩, -⟩ := h
  have hdriven : s.txLine ≠ .undriven := fun hl => hu (hundriven hl).1
  have hidle : s.txLine ≠ .active := fun hl => hs (htx.mp (hactive hl))
  have hstopped : s.edgeEn = false → s.shut = true := fun he => (hoff he).resolve_right hu
  refine ⟨?_, ⟨hshut, ?_, fun he => .inl (hstopped he)⟩, ⟨fun hl => absurd hl hdriven, fun hl => absurd hl hidle⟩,
    hout, hsnap⟩
  · obtain rfl | ⟨rfl, hr⟩ := hp
    · simp [State.PortMatches, hs']
    · simp [State.PortMatches, hs', hu', hr]
  · obtain rfl | ⟨rfl, -⟩ := hp <;> simp

theorem SessionState.ne_of_eligible {st : SessionState} (h : st.eligible = true) :
    st ≠ .uninitialized ∧ st ≠ .ready ∧ st ≠ .quietPeriod := by
  cases st <;> simp_all [SessionState.eligible]

/-- An edge leaves the session state, or moves it from one state of an open exchange after its transmission to another. -/
theorem State.takeEdge_state (s : State) (l : Level) :
    (s.takeEdge l).state = s.state ∨
    (s.state.eligible = true ∧ s.state ≠ .sending ∧
      (s.takeEdge l).state.eligible = true ∧ (s.takeEdge l).state ≠ .sending) := by
  rcases s.takeEdge_cases l with ⟨-, h⟩ | ⟨-, hs, -, h⟩ | ⟨-, hs, -, h⟩ | ⟨-, hs, -, h⟩ | ⟨-, hs, -, h⟩ | ⟨-, hs, -, h⟩ |
    ⟨-, hs, -, h⟩ | ⟨-, hs, -, h⟩
  case inl => exact .inl (by rw [h])
  all_goals exact .inr (by simp [h, hs, SessionState.eligible])

theorem State.ControlInv.takeEdge {s : State} (l : Level) (h : s.ControlInv) : (s.takeEdge l).ControlInv := by
  have hstate := s.takeEdge_state l
  rw [s.takeEdge_frame l]
  generalize (s.takeEdge l).state = next at *
  obtain rfl | ⟨hopen, hs, hopen', hs'⟩ := hstate
  · exact h
  have hu := (SessionState.ne_of_eligible hopen).1
  obtain ⟨hu', hr', -⟩ := SessionState.ne_of_eligible hopen'
  have hp : s.port = .free ∨ s.port = .wait ∧ next ≠ .ready :=
    (h.port_of_state hu hs).imp_right fun hw => ⟨hw, hr'⟩
  refine h.setState hu hs hu' hs' hp ?_ ?_
  · obtain ⟨-, -, -, hout, -⟩ := h
    exact fun _ => hout hopen
  · obtain ⟨-, -, -, -, hsnap⟩ := h
    intro snap hmem
    obtain ⟨hport, heq, -⟩ := hsnap snap hmem
    exact ⟨hport, by simp_all, by simp_all⟩

/-- The snapshot that a split TICK takes fits the state it is taken in. -/
theorem State.ControlInv.snapshotTick {s : State} (h : s.ControlInv) (hp : s.port = .free ∨ s.port = .wait) :
    s.snapshotTick.ControlInv := by
  obtain ⟨hport, hen, hline, hout, -⟩ := h
  refine ⟨hport, hen, hline, hout, ?_⟩
  simp [State.SnapMatches, hp]

/-- What the next step of a TICK does under the invariant: it keeps it and the session state, or it closes an exchange or a
quiet period. -/
theorem State.ControlInv.tickMove_cases {s : State} (h : s.ControlInv) (hp : s.port = .free ∨ s.port = .wait) :
    (s.tickMove.ControlInv ∧ s.tickMove.state = s.state) ∨
    (s.state ≠ .uninitialized ∧ s.tickMove.tickSnap = none ∧
      (s.tickMove.state = .ready ∨ s.tickMove.state = .quietPeriod)) := by
  obtain ⟨-, ht⟩ | ⟨-, ht⟩ | ⟨st, e, hst, ht⟩ := s.tickMove_cases <;> rw [ht]
  · exact .inl ⟨h, rfl⟩
  · exact .inl ⟨h.snapshotTick hp, rfl⟩
  obtain ⟨hstate, houtcome⟩ | ⟨hread, hclosed⟩ := s.tickPolicy_state st e
  · left
    rw [s.tickPolicy_frame, hstate, houtcome]
    obtain ⟨hport, hen, hline, hout, -⟩ := h
    exact ⟨⟨hport, hen, hline, hout, State.snapMatches_of_none rfl⟩, rfl⟩
  · refine .inr ⟨?_, rfl, hclosed⟩
    obtain ⟨-, -, -, -, hsnap⟩ := h
    obtain ⟨-, rfl⟩ | hmem := hst
    · obtain hread | hread := hread
      · exact (SessionState.ne_of_eligible hread).1
      · simp [hread]
    · obtain ⟨-, heq, hkept⟩ := hsnap _ hmem
      obtain hread | hread := hread
      · exact (SessionState.ne_of_eligible (heq ▸ hread)).1
      · subst hread
        simp [hkept rfl]

/-- After the closing of an exchange or a quiet period, the port is free, or WAIT goes on in QUIET_PERIOD. -/
theorem State.ControlInv.close {s : State} {next : SessionState} {p : Port} {o : ExchangeOutcome} (h : s.ControlInv)
    (hp : s.port = .free ∨ s.port = .wait) (hu : s.state ≠ .uninitialized)
    (hnext : next = .ready ∨ next = .quietPeriod) (hp' : p = .free ∨ p = .wait ∧ next ≠ .ready) :
    ({ s with state := next, port := p, outcome := o, tickSnap := none } : State).ControlInv := by
  have hs : s.state ≠ .sending := by
    obtain ⟨⟨htx, -⟩, -⟩ := h
    intro hs
    simp [htx.mpr hs] at hp
  obtain rfl | rfl := hnext <;>
    exact h.setState hu hs (by simp) (by simp) hp' (by simp [SessionState.eligible]) (State.snapMatches_of_none rfl)

theorem State.ControlInv.tickMove {s : State} (h : s.ControlInv) (hp : s.port = .free) : s.tickMove.ControlInv := by
  obtain ⟨hkept, -⟩ | ⟨hu, hsnap, hclosed⟩ := h.tickMove_cases (.inl hp)
  · exact hkept
  · rw [s.tickMove_frame, hsnap]
    exact h.close (.inl hp) hu hclosed (.inl hp)

theorem State.returnIfReady_of_ready {s : State} (h : s.state = .ready) :
    s.returnIfReady = { s with port := .free }.pushResult (.frame s.response) := by
  simp [State.returnIfReady, h]

theorem State.returnIfReady_of_ne_ready {s : State} (h : s.state ≠ .ready) : s.returnIfReady = s.hold 0 := by
  simp [State.returnIfReady, h]

theorem State.ControlInv.waitStep {s : State} (h : s.ControlInv) (hp : s.port = .wait) : s.waitStep.ControlInv := by
  rw [s.waitStep_eq]
  obtain ⟨hkept, hstate⟩ | ⟨hu, hsnap, hclosed⟩ := h.tickMove_cases (.inr hp)
  · have hr : s.tickMove.state ≠ .ready := by
      obtain ⟨⟨-, -, hwait⟩, -⟩ := h
      exact hstate ▸ (hwait hp).2
    rw [State.returnIfReady_of_ne_ready hr]
    split <;> exact hkept
  · rw [hsnap, if_neg (by simp)]
    obtain hr | hq := hclosed
    · rw [State.returnIfReady_of_ready hr, s.tickMove_frame, hsnap]
      exact h.close (.inr hp) hu (.inl hr) (.inl rfl)
    · have hr : s.tickMove.state ≠ .ready := by simp [hq]
      rw [State.returnIfReady_of_ne_ready hr, s.tickMove_frame, hsnap]
      exact h.close (.inr hp) hu (.inr hq) (.inr ⟨hp, hr⟩)

/-- The state after reset meets the control invariant. -/
theorem State.hostReset_controlInv (s : State) : s.hostReset.ControlInv :=
  (by decide : State.reset.ControlInv)

theorem State.ControlInv.moves {s t : State} (h : s.ControlInv) (hm : s.Moves t) : t.ControlInv := by
  cases hm with
  | outputs => exact h
  | reset => exact s.hostReset_controlInv
  | beginStart _ hsnap hshut hstate => exact h.beginStart hsnap hshut hstate
  | finishStart hp => exact h.finishStart hp
  | stop hp => exact h.stop hp
  | beginExchange f wait _ hsnap hshut hstate => exact h.beginExchange f wait hsnap hshut hstate
  | driveHalfBit f hp => exact h.driveHalfBit f hp
  | finishTransmit hp => exact h.finishTransmit hp
  | takeEdge l => exact h.takeEdge l
  | tickMove hp => exact h.tickMove hp
  | waitStep hp => exact h.waitStep hp

/-- Taking an event changes none of the control registers. -/
theorem State.ControlInv.eventTaken {s u : State} (h : s.ControlInv) (hu : s.EventTaken u) : u.ControlInv := by
  obtain ⟨q, n, rfl, -⟩ := hu
  exact h

/-- Settles O57: every move of `step_moves` keeps the invariant. -/
theorem controlInvariantKept : Obligations.ControlInvariantKept := by
  unfold Obligations.ControlInvariantKept
  intro s t hs hstep
  obtain ⟨u, taken, moves⟩ := step_moves hstep
  exact (hs.eventTaken taken).moves moves

/-! ### The receive invariant -/

/-- A shift of one bit into an accumulator of `n` bits gives one of `n + 1` bits (R155). -/
theorem shiftIn_lt {r : Frame} {n : Nat} (b : BitVec 1) (h : r.toNat < 2 ^ n) :
    (r <<< 1 ||| b.setWidth 32).toNat < 2 ^ (n + 1) := by
  rw [BitVec.toNat_or]
  refine Nat.or_lt_two_pow ?_ ?_
  · calc (r <<< 1).toNat = r.toNat <<< 1 % 2 ^ 32 := BitVec.toNat_shiftLeft
      _ ≤ r.toNat * 2 := by rw [Nat.shiftLeft_eq, pow_one]; exact Nat.mod_le _ _
      _ < 2 ^ (n + 1) := by rw [pow_succ]; omega
  · calc (b.setWidth 32).toNat = b.toNat := BitVec.toNat_setWidth_of_le (by omega)
      _ < 2 ^ 1 := b.isLt
      _ ≤ 2 ^ (n + 1) := Nat.pow_le_pow_right (by omega) (by omega)

theorem State.ReceiveInv.driveHalfBit {s : State} (f : Frame) (h : s.ReceiveInv) (hlt : s.txH < 68#7) :
    (s.driveHalfBit f).ReceiveInv := by
  obtain ⟨hcount, -, hclear, hbits, hinvalid⟩ := h
  refine ⟨hcount, ?_, hclear, hbits, hinvalid⟩
  rw [State.driveHalfBit_txH]
  bv_omega

/-- While the accumulator is clear every session state fits it. -/
theorem State.ReceiveInv.ofClear {s : State} {next : SessionState} {b : BitVec 6} (h : s.ReceiveInv)
    (hzero : s.response = 0) (hb : b.toNat ≤ 32) : ({ s with state := next, bitcount := b } : State).ReceiveInv := by
  obtain ⟨-, hhalf, -⟩ := h
  exact ⟨hb, hhalf, fun _ => hzero, by simp [hzero], fun _ _ => hzero⟩

theorem State.ReceiveInv.finishTransmit {s : State} (h : s.ReceiveInv) (hstate : s.state = .sending) :
    s.finishTransmit.ReceiveInv := by
  have ⟨hcount, _, hclear, _⟩ := h
  rw [s.finishTransmit_frame]
  exact h.ofClear (hclear (.inl hstate)) hcount

theorem State.ReceiveInv.dataEdge {s : State} (l : Level) (h : s.ReceiveInv) (hstate : s.state = .receiving)
    (hlt : s.bitcount < 32#6) : (s.dataEdge l).ReceiveInv := by
  obtain ⟨-, hhalf, -, hbits, -⟩ := h
  have hsucc : (s.bitcount + 1).toNat = s.bitcount.toNat + 1 := by bv_omega
  refine ⟨?_, hhalf, by simp [hstate], fun _ => ?_, by simp [hstate]⟩
  · rw [State.dataEdge_bitcount]
    bv_omega
  · rw [State.dataEdge_bitcount, State.dataEdge_response, hsucc]
    exact shiftIn_lt _ (hbits hstate)

/-- A move to READY, QUIET_PERIOD or FRAME_READY asks nothing of the accumulator. -/
theorem State.ReceiveInv.setState {s : State} {next : SessionState} (h : s.ReceiveInv)
    (hnext : next = .ready ∨ next = .quietPeriod ∨ next = .frameReady) :
    ({ s with state := next } : State).ReceiveInv := by
  obtain ⟨hcount, hhalf, -, -, -⟩ := h
  obtain rfl | rfl | rfl := hnext <;> exact ⟨hcount, hhalf, by simp, by simp, by simp⟩

theorem State.ReceiveInv.takeEdge {s : State} (l : Level) (h : s.ReceiveInv) : (s.takeEdge l).ReceiveInv := by
  have ⟨hcount, hhalf, hclear, _, _⟩ := h
  rcases s.takeEdge_cases l with ⟨-, he⟩ | ⟨-, hs, -, he⟩ | ⟨-, hs, -, he⟩ | ⟨-, hs, -, he⟩ | ⟨-, hs, -, he⟩ |
    ⟨-, hs, ⟨-, hlt⟩, he⟩ | ⟨-, hs, ⟨-, -, hcheck, -⟩, he⟩ | ⟨-, hs, -, he⟩ <;> rw [he]
  · exact h
  · exact h.ofClear (hclear (.inr (.inl hs))) hcount
  · exact h.ofClear (hclear (.inr (.inl hs))) hcount
  · exact h.ofClear (hclear (.inr (.inr hs))) (by simp)
  · exact h.ofClear (hclear (.inr (.inr hs))) hcount
  · exact h.dataEdge l hs hlt
  · exact ⟨hcount, hhalf, by simp, by simp, by simp [hcheck]⟩
  · exact h.setState (.inr (.inr rfl))

/-- The next step of a TICK leaves the session state, or goes to READY or QUIET_PERIOD. -/
theorem State.tickMove_state (s : State) :
    s.tickMove.state = s.state ∨ s.tickMove.state = .ready ∨ s.tickMove.state = .quietPeriod := by
  obtain ⟨-, ht⟩ | ⟨-, ht⟩ | ⟨st, e, -, ht⟩ := s.tickMove_cases <;> rw [ht]
  · exact .inl rfl
  · exact .inl rfl
  · exact (s.tickPolicy_state st e).imp And.left And.right

theorem State.ReceiveInv.tickMove {s : State} (h : s.ReceiveInv) : s.tickMove.ReceiveInv := by
  have hstate := s.tickMove_state
  rw [s.tickMove_frame]
  generalize s.tickMove.state = next at *
  obtain rfl | hr | hq := hstate
  · exact h
  · exact h.setState (.inl hr)
  · exact h.setState (.inr (.inl hq))

theorem State.ReceiveInv.waitStep {s : State} (h : s.ReceiveInv) : s.waitStep.ReceiveInv := by
  rw [s.waitStep_eq]
  split
  · exact h.tickMove
  · rw [s.tickMove.returnIfReady_frame]
    exact h.tickMove

theorem State.hostReset_receiveInv (s : State) : s.hostReset.ReceiveInv := by
  simp [State.ReceiveInv, State.hostReset, State.reset]

theorem State.ReceiveInv.moves {s t : State} (hc : s.ControlInv) (h : s.ReceiveInv) (hm : s.Moves t) : t.ReceiveInv := by
  cases hm with
  | outputs => exact h
  | reset => exact s.hostReset_receiveInv
  | beginStart => exact h
  | finishStart => exact h.setState (.inl rfl)
  | stop => exact h
  | beginExchange f wait =>
    obtain ⟨hcount, -⟩ := h
    exact ⟨hcount, by simp, fun _ => rfl, by simp, by simp⟩
  | driveHalfBit f _ hlt => exact h.driveHalfBit f hlt
  | finishTransmit hp =>
    obtain ⟨⟨htx, -⟩, -⟩ := hc
    exact h.finishTransmit (htx.mp hp)
  | takeEdge l => exact h.takeEdge l
  | tickMove => exact h.tickMove
  | waitStep => exact h.waitStep

theorem State.ReceiveInv.eventTaken {s u : State} (h : s.ReceiveInv) (hu : s.EventTaken u) : u.ReceiveInv := by
  obtain ⟨q, n, rfl, -⟩ := hu
  exact h

/-- Settles O58: every move of `step_moves` keeps the invariant; that `port` is TX only in SENDING, where the accumulator is
clear, is what the end of a transmission takes from the control invariant. -/
theorem receiveInvariantKept : Obligations.ReceiveInvariantKept := by
  unfold Obligations.ReceiveInvariantKept
  intro s t hc hs hstep
  obtain ⟨u, taken, moves⟩ := step_moves hstep
  exact (hs.eventTaken taken).moves (hc.eventTaken taken) moves

end Sys2Proof.Machine
end

section
/-!
SUPPORT. Commands, runs with no move, and reset.
-/

namespace Sys2Proof.Machine

/-- Settles O6, by `fetchEvent_command_of_free` and `runAt_of_le`. -/
theorem stepRunsCommand : Obligations.StepRunsCommand := by
  unfold Obligations.StepRunsCommand
  intro s rest time w v i hin hport hsnap hi hnow htime
  cases hi
  have hfree : ({ s with inputs := rest } : State).busy = false := (State.busy_eq_false_iff _).mpr ⟨hport, hsnap⟩
  refine step_of_run ?_
  rw [fetch_cons hin, fetchEvent_command_of_free time w v hfree]
  exact runAt_of_le hnow htime

/-- Settles O11, by `fetchEvent_command_of_busy` and `fetchEvent_edge_of_ne`. -/
theorem noMoveStops : Obligations.NoMoveStops := by
  unfold Obligations.NoMoveStops
  refine fun s rest time w v => ⟨fun hin hocc => step_of_stuck ?_, fun hin hop => step_of_stuck ?_⟩
  · have hbusy : ({ s with inputs := rest } : State).busy = true := by
      simpa [State.busy, ← Option.isSome_iff_ne_none] using hocc
    rw [fetch_cons hin, fetchEvent_command_of_busy time w v hbusy]
  · rw [fetch_cons hin, fetchEvent_edge_of_ne _ time hop]

/-- Settles O52: the next state is `State.hostReset`, whose fields are those of `State.reset` but for what a reset keeps. -/
theorem resetEffect : Obligations.ResetEffect := by
  unfold Obligations.ResetEffect
  exact fun s rest time hin => ⟨_, step_of_reset hin, rfl, rfl, rfl, rfl, rfl, rfl, rfl, rfl, rfl, rfl, rfl, rfl, rfl⟩

/-- Settles O53: in `State.reset`, UNINITIALIZED and not shut down, each command takes its arm for that state. -/
theorem resetState : Obligations.ResetState := by
  unfold Obligations.ResetState
  exact ⟨by decide, rfl, fun _ => rfl, fun _ => rfl, rfl⟩

/-- Settles O56, by evaluating the three invariants at the reset values. -/
theorem resetMeetsInvariant : Obligations.ResetMeetsInvariant := by
  unfold Obligations.ResetMeetsInvariant
  exact ⟨by decide, by decide, by decide⟩

end Sys2Proof.Machine
end

section
/-!
SUPPORT. Edges, frames and moves of the polling agent: run at their clock value, without effect, or refused
(spec/20_memory.md R67 to R70; spec/60_exceptions.md R223).
-/

namespace Sys2Proof.Machine

/-! ### Edges and frames -/

/-- An edge event runs the instruction that its word decodes to (R91). -/
theorem fetchEvent_edge_of_decode {w : CommandWord} {i : Instr} (s : State) (time : Nat) (h : decode (.edge w) = .ok i) :
    fetchEvent { time := time, input := .edge w } s = runAt i (s.clockInput time) s := by
  simp [fetchEvent, h]

/-- A frame event runs the instruction that the frame decodes to (R82). -/
theorem fetchEvent_frame_of_decode {f : Frame} {i : Instr} (s : State) (time : Nat) (h : decode (.line f) = .ok i) :
    fetchEvent { time := time, input := .frame f } s = runAt i (s.clockInput time) s := by
  cases h
  rfl

/-- Settles O7, by `fetchEvent_edge_of_decode`, `fetchEvent_frame_of_decode` and `runAt_of_le`. -/
theorem stepRunsEdgesAndFrames : Obligations.StepRunsEdgesAndFrames := by
  unfold Obligations.StepRunsEdgesAndFrames
  refine ⟨fun s rest time w i hin hi hnow htime => step_of_run ?_,
    fun s rest time f i hin hi hnow htime => step_of_run ?_⟩
  · rw [fetch_cons hin, fetchEvent_edge_of_decode _ time hi]
    exact runAt_of_le hnow htime
  · rw [fetch_cons hin, fetchEvent_frame_of_decode _ time hi]
    exact runAt_of_le hnow htime

/-- An edge changes nothing while delivery is disabled (R70), outside the receiving-capable states (R151), and in RECEIVING
within the threshold (R154). -/
theorem State.takeEdge_eq_self {s : State} (l : Level)
    (h : s.edgeEn = false ∨ (s.state ≠ .awaitingStart ∧ s.state ≠ .startReceived ∧ s.state ≠ .receiving) ∨
      (s.state = .receiving ∧ s.elapsed s.ts ≤ tSample)) :
    s.takeEdge l = s := by
  obtain ⟨-, hs⟩ | ⟨hen, hst, -⟩ | ⟨hen, hst, -⟩ | ⟨hen, hst, -⟩ | ⟨hen, hst, -⟩ | ⟨hen, hst, ⟨hlate, -⟩, -⟩ |
    ⟨hen, hst, ⟨hlate, -⟩, -⟩ | ⟨hen, hst, ⟨hlate, -⟩, -⟩ := s.takeEdge_cases l
  case inl => exact hs
  case inr.inl | inr.inr.inl | inr.inr.inr.inl | inr.inr.inr.inr.inl => simp [hen, hst] at h
  all_goals simp [hen, hst, Nat.not_le.mpr hlate] at h

/-- EDGE's step is the edge event of the decoder (R150). -/
theorem exec_edge (l : Level) (s : State) : exec (.edge l) s = .next (s.takeEdge l) := rfl

/-- Settles O25: in each of the three cases `State.takeEdge_eq_self` applies. -/
theorem edgesWithoutEffect : Obligations.EdgesWithoutEffect := by
  unfold Obligations.EdgesWithoutEffect
  refine fun s l => ⟨fun hen => ?_, fun hst => ?_, fun hrec => ?_⟩
  · rw [exec_edge, State.takeEdge_eq_self l (.inl hen)]
  · have houtside : s.state ≠ .awaitingStart ∧ s.state ≠ .startReceived ∧ s.state ≠ .receiving := by
      obtain hst | hst | hst | hst | hst | hst := hst <;> simp [hst]
    rw [exec_edge, State.takeEdge_eq_self l (.inr (.inl houtside))]
  · rw [exec_edge, State.takeEdge_eq_self l (.inr (.inr hrec))]

/-! ### Moves of the polling agent -/

/-- At a time that fits the clock, the polling agent moves at that time. -/
theorem fetch_resume {s : State} {rest : List Event} {time : Nat}
    (hin : s.inputs = { time := time, input := .resume } :: rest) (htime : time < 2 ^ s.cfg.clockWidth) :
    fetch s = resumeAt time { s with inputs := rest } := by
  have hclock : ({ s with inputs := rest } : State).clockInput time = time := State.clockInput_of_lt _ time htime
  rw [fetch_cons hin, fetchEvent, hclock]

/-- Before its hold is over the polling agent goes on waiting (R67). -/
theorem resumeAt_of_lt_holdUntil {n : Nat} {s : State} (hnow : s.now ≤ n) (hhold : n < s.holdUntil) :
    resumeAt n s = .moved (s.sample n) := by
  simp [resumeAt, Nat.not_lt.mpr hnow, hhold]

/-- With the port TX and the hold over, the polling agent goes on with the transmission (R140). -/
theorem resumeAt_of_tx {n : Nat} {s : State} (hport : s.port = .tx) (hnow : s.now ≤ n) (hhold : s.holdUntil ≤ n) :
    resumeAt n s = .run (.transmit s.txFrame) (s.sample n) := by
  simp [resumeAt, Nat.not_lt.mpr hnow, Nat.not_lt.mpr hhold, hport]

/-- With the port WAKE and the hold over, the polling agent ends START (R181). -/
theorem resumeAt_of_wake {n : Nat} {s : State} (hport : s.port = .wake) (hnow : s.now ≤ n) (hhold : s.holdUntil ≤ n) :
    resumeAt n s = .moved (s.sample n).finishStart := by
  simp [resumeAt, Nat.not_lt.mpr hnow, Nat.not_lt.mpr hhold, hport]

/-- Settles O8, by `resumeAt_of_tx`. -/
theorem stepRunsTransmit : Obligations.StepRunsTransmit := by
  unfold Obligations.StepRunsTransmit
  intro s rest time hin hport hnow hhold htime
  exact step_of_run ((fetch_resume hin htime).trans (resumeAt_of_tx hport hnow hhold))

/-- Settles O9, by `resumeAt_of_lt_holdUntil`. -/
theorem holdIsLowerBound : Obligations.HoldIsLowerBound := by
  unfold Obligations.HoldIsLowerBound
  intro s rest time hin hnow hhold htime
  exact step_of_moved ((fetch_resume hin htime).trans (resumeAt_of_lt_holdUntil hnow hhold))

/-- Settles O34, by `resumeAt_of_wake` from the end of the hold on, and by `holdIsLowerBound` before it. -/
theorem startCompletes : Obligations.StartCompletes := by
  unfold Obligations.StartCompletes
  intro s rest time hin hport hnow htime
  refine ⟨fun hhold => ?_, fun hhold => holdIsLowerBound s rest time hin hnow hhold htime⟩
  exact step_of_moved ((fetch_resume hin htime).trans (resumeAt_of_wake hport hnow hhold))

/-! ### The clock premise -/

/-- The first refusal of a run records its reason and changes nothing else (R223). -/
theorem State.refuse_of_mark_eq_none {s : State} (r : RefusalReason) (h : s.mark = none) :
    s.refuse r = { s with mark := some r } := by
  simp [State.refuse, h]

/-- A code that is no operation is refused as such (R92, R223). -/
theorem exec_of_noOperation {i : Instr} (s : State) (h : noOperation i = true) :
    exec i s = .next (s.refuse .notAnOperation) := by
  cases i with
  | reserved01110 | reserved01111 | reserved10110 | reserved10111 | reserved11xxx _ => rfl
  | _ => cases h

/-- An operation that sees the clock go backward is refused (R74). -/
theorem runAt_of_lt {i : Instr} {n : Nat} {s : State} (hop : noOperation i = false) (hback : n < s.now) :
    runAt i n s = .moved (s.refuse .clockPremise) := by
  simp [runAt, hop, hback]

/-- A code that is no operation is reached even where the clock goes backward, and the sample then stays (R223). -/
theorem runAt_of_noOperation {i : Instr} {n : Nat} {s : State} (hop : noOperation i = true) (hback : n < s.now) :
    runAt i n s = .run i s := by
  simp [runAt, State.sampleForward, hop, hback]

/-- A move of the polling agent that sees the clock go backward is refused (R74). -/
theorem resumeAt_of_lt {n : Nat} {s : State} (hback : n < s.now) : resumeAt n s = .moved (s.refuse .clockPremise) := by
  simp [resumeAt, hback]

/-- Every frame on the line is an operation: all kinds are defined (R82). -/
theorem noOperation_decodeFrame (f : Frame) : noOperation (decodeFrame f) = false := by
  unfold decodeFrame
  split <;> rfl

/-- A step whose event is refused takes the event off and records the reason of the run's first refusal (R223). -/
theorem step_of_refuse {s : State} {rest : List Event} {e : Event} {r : RefusalReason} (hin : s.inputs = e :: rest)
    (hmark : s.mark = none)
    (hrefuse : fetchEvent e { s with inputs := rest } = .moved (({ s with inputs := rest } : State).refuse r)) :
    step s = .next { s with inputs := rest, mark := some r } := by
  rw [step_of_moved ((fetch_cons hin).trans hrefuse)]
  exact congrArg _ (State.refuse_of_mark_eq_none r hmark)

/-- Settles O10: each kind of event is refused where the clock goes backward, by `runAt_of_lt` and `resumeAt_of_lt`; a code
that is no operation is run there by `runAt_of_noOperation`, and refused by its own row. -/
theorem clockPremiseRefused : Obligations.ClockPremiseRefused := by
  unfold Obligations.ClockPremiseRefused
  intro s rest ⟨time, input⟩ hin hmark hback
  refine ⟨fun w v he hfree hop => ?_, fun w v he hfree hop => ?_, fun w he hop => ?_, fun f he => ?_, fun he => ?_⟩ <;>
    cases he
  · exact step_of_refuse hin hmark
      ((fetchEvent_command_of_free (s := { s with inputs := rest }) time w v hfree).trans
        (runAt_of_lt (hop _ rfl) hback))
  · have hfetch : fetch s = .run (decodeCommand w v) { s with inputs := rest } :=
      (fetch_cons hin).trans
        ((fetchEvent_command_of_free (s := { s with inputs := rest }) time w v hfree).trans
          (runAt_of_noOperation (hop _ rfl) hback))
    rw [step_of_run hfetch, exec_of_noOperation _ (hop _ rfl)]
    exact congrArg _ (State.refuse_of_mark_eq_none _ hmark)
  · have hedge : decode (.edge w) = .ok (.edge (Level.ofBit (levelField w))) := by simp [decode, hop]
    exact step_of_refuse hin hmark ((fetchEvent_edge_of_decode _ time hedge).trans (runAt_of_lt rfl hback))
  · exact step_of_refuse hin hmark
      ((fetchEvent_frame_of_decode _ time rfl).trans (runAt_of_lt (noOperation_decodeFrame f) hback))
  · exact step_of_refuse hin hmark (resumeAt_of_lt hback)

end Sys2Proof.Machine
end

section
/-!
SUPPORT. Decoding and encoding: what the encoder writes is read back, the fields that an operation does not use, and the codes
that are no operations (spec/30_encoding.md R80 to R93).
-/

namespace Sys2Proof.Machine

open Sys2Proof.Stated

/-! ### Round trip -/

/-- Every code from 11000 on is reserved on the command port, TRANSMIT's and EDGE's included (R92). -/
theorem decodeCommand_of_le {w : CommandWord} (v : Value) (h : 24 ≤ (opField w).toNat) :
    decodeCommand w v = .reserved11xxx ((opField w).extractLsb' 0 3) := by
  unfold decodeCommand
  split
  case h_25 => rfl -- the arm of 11xxx
  all_goals
    next hop =>
    rw [hop] at h
    exact absurd h (by decide)

@[simp] theorem opField_frameCommand (op : BitVec 5) (f : Frame) : opField (frameCommand op f) = op :=
  opField_commandWord ..

@[simp] theorem frameField_frameCommand (op : BitVec 5) (f : Frame) : frameField (frameCommand op f) = f :=
  frameField_commandWord ..

@[simp] theorem opField_plainCommand (op : BitVec 5) : opField (plainCommand op) = op :=
  opField_commandWord ..

/-- Settles O1: the encoder writes the code under which the decoder reads the fields back: an operation's on the input that
carries it, a kind's in a frame, and for 11xxx the low three bits. The value goes beside the word as it is, so even a
denominator 0 comes back. -/
theorem decodeOfEncode : Obligations.DecodeOfEncode := by
  unfold Obligations.DecodeOfEncode
  intro i _
  cases i with
  | transmit f => simp [encode, decode]
  | edge l => cases l <;> rfl
  | reserved11xxx low =>
    have hcode : 24 ≤ (0b11000#5 ||| low.setWidth 5).toNat ∧ (0b11000#5 ||| low.setWidth 5).extractLsb' 0 3 = low := by
      revert low
      decide
    obtain ⟨hle, hlow⟩ := hcode
    rw [encode, decode, decodeCommand_of_le _ (by rwa [opField_plainCommand]), opField_plainCommand, hlow]
  | frameReadData _ _ _ _ | frameWriteData _ _ _ _ | frameInvalidData _ _ _ _ | frameReserved _ _ _ _
  | frameReadAck _ _ _ _ | frameWriteAck _ _ _ _ | frameDataInvalid _ _ _ _ | frameUnknownDataId _ _ _ _ =>
    simp [encode, decode, decodeFrame, MessageKind.ofCode]
  | _ => simp [encode, decode, decodeCommand]

/-! ### Fields that an operation does not use -/

/-- Words that agree under a mask agree on every field inside the mask. -/
theorem extractLsb'_congr_of_and_eq {w w' m : CommandWord} {start len : Nat} (h : w &&& m = w' &&& m)
    (hm : ∀ j < len, m.getLsbD (start + j) = true) : w.extractLsb' start len = w'.extractLsb' start len := by
  apply BitVec.eq_of_getLsbD_eq
  intro j hj
  have hbit := congrArg (·.getLsbD (start + j)) h
  simpa [hm j hj, hj] using hbit

/-- The frame field is bits 31:0 (R90). -/
theorem frameField_congr {w w' : CommandWord} (h : w &&& 0x00000000FFFFFFFF#64 = w' &&& 0x00000000FFFFFFFF#64) :
    frameField w = frameField w' :=
  extractLsb'_congr_of_and_eq h (by decide)

/-- The operands of BUILD_REQUEST are bits 58:32 (R90). -/
theorem requestFields_congr {w w' : CommandWord} (h : w &&& 0x07FFFFFF00000000#64 = w' &&& 0x07FFFFFF00000000#64) :
    kindField w = kindField w' ∧ idField w = idField w' ∧ payloadField w = payloadField w' :=
  ⟨extractLsb'_congr_of_and_eq h (by decide), extractLsb'_congr_of_and_eq h (by decide),
    extractLsb'_congr_of_and_eq h (by decide)⟩

/-- The level is bit 0 (R91). -/
theorem levelField_congr {w w' : CommandWord} (h : w.getLsbD 0 = w'.getLsbD 0) : levelField w = levelField w' := by
  apply BitVec.eq_of_getLsbD_eq
  intro j hj
  interval_cases j
  simpa [levelField] using h

/-- The command port reads a word's code and the bits that its operation uses, and the value for TEMP_TO_F88 alone (R90, R93). -/
theorem decodeCommand_congr {w w' : CommandWord} {v v' : Value} (hop : opField w = opField w')
    (hused : w &&& usedBits (opField w) = w' &&& usedBits (opField w)) (hv : opField w = 0b00111#5 → v = v') :
    decodeCommand w v = decodeCommand w' v' := by
  unfold decodeCommand
  rw [← hop]
  split
  case h_2 hcode => -- BUILD_REQUEST
    rw [hcode] at hused
    obtain ⟨hkind, hid, hpayload⟩ := requestFields_congr hused
    rw [hkind, hid, hpayload]
  case h_8 hcode => rw [hv hcode] -- TEMP_TO_F88
  case h_15 | h_16 | h_17 | h_18 | h_21 | h_22 | h_23 | h_24 | h_25 => rfl -- no operand
  all_goals -- the operations on a frame
    next hcode =>
    rw [hcode] at hused
    rw [frameField_congr hused]

/-- Settles O2: a decoder reads a word through its code and its used fields, and each of these is inside the bits that agree. -/
theorem unusedFieldsIgnored : Obligations.UnusedFieldsIgnored := by
  unfold Obligations.UnusedFieldsIgnored
  refine ⟨fun w w' v v' hop hused hv => ?_, fun w w' hop hbit => ?_, fun w w' hop hused => ?_⟩
  · exact congrArg Except.ok (decodeCommand_congr hop hused hv)
  · simp only [decode, hop, levelField_congr hbit]
  · simp only [decode, hop, frameField_congr hused]

/-! ### Reserved codes -/

/-- The codes of the command port that are no operations (R92). -/
theorem noOperation_decodeCommand (w : CommandWord) (v : Value) :
    noOperation (decodeCommand w v) = true ↔ (opField w).toNat ∈ [14, 15, 22, 23] ∨ 24 ≤ (opField w).toNat := by
  unfold decodeCommand
  split
  case h_25 => -- the arm of 11xxx, which no other code reaches
    simp only [imp_false, ← BitVec.toNat_inj, BitVec.reduceToNat] at *
    exact iff_of_true rfl (.inr (by omega))
  all_goals
    next hop =>
    rw [hop]
    simp [noOperation]

/-- Settles O3, by `noOperation_decodeCommand` and `exec_of_noOperation`. -/
theorem reservedCodesRefused : Obligations.ReservedCodesRefused := by
  unfold Obligations.ReservedCodesRefused
  refine fun w v => ⟨decodeCommand w v, rfl, fun hres s hmark => ?_, fun hop => ?_⟩
  · rw [exec_of_noOperation s ((noOperation_decodeCommand w v).mpr hres), State.refuse_of_mark_eq_none _ hmark]
  · rwa [← Bool.not_eq_true, noOperation_decodeCommand]

/-- Settles O4: each of the rows is `State.refuse`, which in a state with no mark records its reason alone. -/
theorem reservedRowsOnlyMark : Obligations.ReservedRowsOnlyMark := by
  unfold Obligations.ReservedRowsOnlyMark
  intro s low hmark
  rw [← State.refuse_of_mark_eq_none _ hmark]
  exact ⟨rfl, rfl, rfl, rfl, rfl⟩

/-- Settles O5, by decoding the six words. -/
theorem specWordsDecode : Obligations.SpecWordsDecode := by
  unfold Obligations.SpecWordsDecode
  exact ⟨rfl, rfl, rfl, rfl, rfl, rfl⟩

end Sys2Proof.Machine
end

section
/-!
SUPPORT. Frames on the line: the nominal edges of a frame, how many there are, and their place among the events to come
(spec/30_encoding.md R86 to R89).
-/

namespace Sys2Proof.Machine

/-! ### Nominal edges -/

/-- The edge event at the start of half-bit `k` of a nominal line frame whose first edge is at `t0`. -/
def halfBitEdge (f : Frame) (t0 k : Nat) : Event :=
  { time := t0 + k * tHalf, input := .edge (edgeWord (halfBit f k)) }

/-- The edges among some half-bits stand exactly where the level changes. -/
theorem edgesFrom_eq (f : Frame) (t0 k n : Nat) :
    edgesFrom f t0 k n =
      ((List.range' k n).filter fun j => halfBit f j ≠ levelBefore f j).map (halfBitEdge f t0) := by
  induction n generalizing k with
  | zero => rfl
  | succ n ih =>
    rw [edgesFrom, List.range'_succ, List.filter_cons]
    by_cases hsame : halfBit f k = levelBefore f k <;> simp [hsame, ih, halfBitEdge]

/-- The nominal edges of a frame stand exactly at the half-bits whose level differs from the one before (R89). -/
theorem nominalEdges_eq (f : Frame) (t0 : Nat) :
    nominalEdges f t0 = ((List.range 68).filter fun j => halfBit f j ≠ levelBefore f j).map (halfBitEdge f t0) := by
  rw [nominalEdges, edgesFrom_eq, List.range_eq_range']

/-- The nominal edges come in the order of their times. -/
theorem nominalEdges_sorted (f : Frame) (t0 : Nat) : (nominalEdges f t0).Pairwise fun a b => a.time ≤ b.time := by
  rw [nominalEdges_eq, List.pairwise_map]
  refine (List.pairwise_lt_range.filter _).imp fun hlt => ?_
  simp only [halfBitEdge, tHalf]
  omega

/-! ### The number of nominal edges -/

/-- The first half of a bit shows it (R86). -/
theorem halfBit_even (f : Frame) (j : Nat) : halfBit f (2 * j) = if lineBit f j = true then .active else .idle := by
  simp [halfBit]

/-- The second half of a bit shows its complement (R86). -/
theorem halfBit_odd (f : Frame) (j : Nat) : halfBit f (2 * j + 1) = if lineBit f j = true then .idle else .active := by
  have hodd : (2 * j + 1) % 2 = 1 := by omega
  have hhalf : (2 * j + 1) / 2 = j := by omega
  simp [halfBit, hodd, hhalf]

/-- In the middle of every bit the level changes. -/
theorem halfBit_odd_ne (f : Frame) (j : Nat) : halfBit f (2 * j + 1) ≠ levelBefore f (2 * j + 1) := by
  rw [levelBefore, halfBit_odd, halfBit_even]
  cases lineBit f j <;> decide

/-- Between two bits the level changes exactly when they are equal. -/
theorem halfBit_even_ne_iff (f : Frame) (j : Nat) :
    halfBit f (2 * (j + 1)) ≠ levelBefore f (2 * (j + 1)) ↔ lineBit f j = lineBit f (j + 1) := by
  rw [Nat.mul_succ, levelBefore, halfBit_odd, ← Nat.mul_succ, halfBit_even]
  cases lineBit f j <;> cases lineBit f (j + 1) <;> decide

/-- In the first `n + 1` bits of a line frame the level changes once at the start, once in every bit, and once for every pair
of equal neighbours. -/
theorem countP_levelChange (f : Frame) (n : Nat) :
    (List.range (2 * (n + 1))).countP (fun k => halfBit f k ≠ levelBefore f k) =
      n + 2 + ∑ j ∈ Finset.range n, if lineBit f j = lineBit f (j + 1) then 1 else 0 := by
  induction n with
  | zero => simp [List.range_succ, halfBit, levelBefore, lineBit]
  | succ n ih =>
    have htwo : List.range (2 * (n + 1 + 1)) = List.range (2 * (n + 1)) ++ [2 * (n + 1)] ++ [2 * (n + 1) + 1] := by
      rw [← List.range_succ, ← List.range_succ, Nat.mul_succ]
    rw [htwo, List.countP_append, List.countP_append, ih, Finset.sum_range_succ]
    simp only [List.countP_singleton, decide_eq_true_eq, halfBit_even_ne_iff, halfBit_odd_ne, ne_eq, not_false_iff, if_true]
    omega

/-- The pairs of equal neighbours among the 34 bits of a line frame, each by its first bit. -/
def equalNeighbours (f : Frame) : Finset (Fin 33) :=
  Finset.univ.filter fun j : Fin 33 => lineBit f j.val = lineBit f (j.val + 1)

/-- A nominal line frame has 35 edges and one more for each pair of equal neighbours (R89). -/
theorem length_nominalEdges (f : Frame) (t0 : Nat) : (nominalEdges f t0).length = 35 + (equalNeighbours f).card := by
  rw [nominalEdges_eq, List.length_map, ← List.countP_eq_length_filter, equalNeighbours, Finset.card_filter,
    Fin.sum_univ_eq_sum_range fun j => if lineBit f j = lineBit f (j + 1) then 1 else 0]
  exact countP_levelChange f 33

/-- Where no two neighbours are equal, the bits alternate from the start bit on. -/
theorem lineBit_of_alternating {f : Frame} (h : ∀ j < 33, lineBit f j ≠ lineBit f (j + 1)) :
    ∀ j ≤ 33, lineBit f j = decide (j % 2 = 0)
  | 0, _ => rfl
  | j + 1, hj => by
    have hne := h j (by omega)
    rw [lineBit_of_alternating h j (by omega)] at hne
    obtain hj2 | hj2 := Nat.mod_two_eq_zero_or_one j <;> simp_all [Nat.add_mod]

/-- Some neighbours are equal: the start bit and the stop bit are both 1, and 33 places apart (R87). -/
theorem equalNeighbours_nonempty (f : Frame) : (equalNeighbours f).Nonempty := by
  by_contra hnone
  have hne : ∀ j < 33, lineBit f j ≠ lineBit f (j + 1) := fun j hj heq =>
    hnone ⟨⟨j, hj⟩, Finset.mem_filter.mpr ⟨Finset.mem_univ _, heq⟩⟩
  cases lineBit_of_alternating hne 33 le_rfl

/-- Settles O55: `nominalEdges_eq` says where the edges stand; their number is `length_nominalEdges`, and among the 33 pairs of
neighbours one at least is equal. -/
theorem nominalEdgeCount : Obligations.NominalEdgeCount := by
  unfold Obligations.NominalEdgeCount
  intro f t0
  have hpos : 0 < (equalNeighbours f).card := (equalNeighbours_nonempty f).card_pos
  have hle : (equalNeighbours f).card ≤ 33 := Finset.card_le_univ _
  refine ⟨fun e => ?_, length_nominalEdges f t0, ?_⟩
  · rw [nominalEdges_eq, List.mem_map]
    simp only [List.mem_filter, List.mem_range, decide_eq_true_eq, and_assoc, halfBitEdge, tHalf, Nat.mul_comm,
      eq_comm (a := e)]
  · rw [length_nominalEdges]
    omega

/-! ### The place of the edges among the events to come -/

/-- Edges put one after the other among the events of a queue, as `State.schedule` does it. -/
def insertEvents (edges q : List Event) : List Event := edges.foldl (fun q e => insertEvent e q) q

theorem State.receiveFrame_eq (s : State) (f : Frame) :
    s.receiveFrame f = { s with inputs := insertEvents (nominalEdges f s.now) s.inputs } := rfl

/-- What is not later than an event stays in front of it. -/
theorem insertEvent_append_of_le {e : Event} {l : List Event} (l' : List Event) (h : ∀ x ∈ l, x.time ≤ e.time) :
    insertEvent e (l ++ l') = l ++ insertEvent e l' := by
  induction l with
  | nil => rfl
  | cons x l ih =>
    obtain ⟨hx, hl⟩ := List.forall_mem_cons.mp h
    simp [insertEvent, Nat.not_lt.mpr hx, ih hl]

/-- From the first later event on, a queue stays as it is. -/
theorem insertEvent_append_of_lt {e : Event} (l : List Event) {l' : List Event} (h : ∀ x ∈ l'.head?, e.time < x.time) :
    insertEvent e (l ++ l') = insertEvent e l ++ l' := by
  induction l with
  | nil => cases l' <;> simp_all [insertEvent]
  | cons x l ih =>
    simp only [List.cons_append, insertEvent, ih]
    split <;> rfl

/-- What is not later than any of some edges stays in front of them. -/
theorem insertEvents_append_of_le {edges l : List Event} (l' : List Event) (h : ∀ e ∈ edges, ∀ x ∈ l, x.time ≤ e.time) :
    insertEvents edges (l ++ l') = l ++ insertEvents edges l' := by
  induction edges generalizing l' with
  | nil => rfl
  | cons e edges ih =>
    obtain ⟨he, hedges⟩ := List.forall_mem_cons.mp h
    rw [insertEvents, List.foldl_cons, insertEvent_append_of_le l' he]
    exact ih _ hedges

/-- From the first event on that is later than all the edges, a queue stays as it is. -/
theorem insertEvents_append_of_lt {edges : List Event} (l : List Event) {l' : List Event}
    (h : ∀ e ∈ edges, ∀ x ∈ l'.head?, e.time < x.time) :
    insertEvents edges (l ++ l') = insertEvents edges l ++ l' := by
  induction edges generalizing l with
  | nil => rfl
  | cons e edges ih =>
    obtain ⟨he, hedges⟩ := List.forall_mem_cons.mp h
    rw [insertEvents, List.foldl_cons, insertEvent_append_of_lt l he]
    exact ih _ hedges

theorem insertEvent_perm (e : Event) (q : List Event) : (insertEvent e q).Perm (e :: q) := by
  induction q with
  | nil => exact .refl _
  | cons x q ih =>
    rw [insertEvent]
    split
    · exact .refl _
    · exact (ih.cons x).trans (.swap e x q)

theorem insertEvents_perm (edges q : List Event) : (insertEvents edges q).Perm (edges ++ q) := by
  induction edges generalizing q with
  | nil => exact .refl _
  | cons e edges ih =>
    exact (ih _).trans (((insertEvent_perm e q).append_left edges).trans List.perm_middle)

theorem sublist_insertEvent (e : Event) (q : List Event) : q.Sublist (insertEvent e q) := by
  induction q with
  | nil => exact List.nil_sublist _
  | cons x q ih =>
    rw [insertEvent]
    split
    · exact List.sublist_cons_self ..
    · exact ih.cons_cons x

theorem sublist_insertEvents (edges q : List Event) : q.Sublist (insertEvents edges q) := by
  induction edges generalizing q with
  | nil => exact .refl _
  | cons e edges ih => exact (sublist_insertEvent e q).trans (ih _)

/-- Edges that come in the order of their times split a queue at each of them: in front stand the edges before it and the events
up to the first later one, behind it the edges after it and the other events. -/
theorem insertEvents_eq_of_sorted {pre post : List Event} {e : Event} (q : List Event)
    (h : (pre ++ e :: post).Pairwise fun a b => a.time ≤ b.time) :
    insertEvents (pre ++ e :: post) q =
      insertEvents pre (q.takeWhile fun x => decide (x.time ≤ e.time)) ++
        e :: insertEvents post (q.dropWhile fun x => decide (x.time ≤ e.time)) := by
  obtain ⟨-, hsorted, hpre⟩ := List.pairwise_append.mp h
  have hpost := (List.pairwise_cons.mp hsorted).1
  set early := q.takeWhile fun x => decide (x.time ≤ e.time) with hearly
  set late := q.dropWhile fun x => decide (x.time ≤ e.time) with hlate
  have hq : early ++ late = q := List.takeWhile_append_dropWhile
  have hhead : ∀ x ∈ late.head?, e.time < x.time := by
    intro x hx
    have hnot := List.head?_dropWhile_not (fun x => decide (x.time ≤ e.time)) q
    rw [← hlate, hx] at hnot
    simpa using hnot
  have hfront : ∀ x ∈ insertEvents pre early, x.time ≤ e.time := by
    intro x hx
    obtain hmem | hmem := List.mem_append.mp ((insertEvents_perm pre early).mem_iff.mp hx)
    · exact hpre x hmem e List.mem_cons_self
    · simpa using List.mem_takeWhile_imp hmem
  calc insertEvents (pre ++ e :: post) q
      = insertEvents post (insertEvent e (insertEvents pre (early ++ late))) := by
        rw [hq, insertEvents, List.foldl_append]
        rfl
    _ = insertEvents post (insertEvents pre early ++ e :: late) := by
        rw [insertEvents_append_of_lt early fun a ha x hx => (hpre a ha e List.mem_cons_self).trans_lt (hhead x hx),
          insertEvent_append_of_le late hfront]
        exact congrArg (fun l => insertEvents post (insertEvents pre early ++ l)) (insertEvent_append_of_lt [] hhead)
    _ = insertEvents pre early ++ e :: insertEvents post late := by
        rw [insertEvents_append_of_le _ fun b hb x hx => (hfront x hx).trans (hpost b hb)]
        exact congrArg _ (insertEvents_append_of_le (l := [e]) late (by simpa using hpost))

/-- Edges that come in the order of their times stay in that order. -/
theorem sublist_insertEvents_of_sorted {edges : List Event} (q : List Event)
    (h : edges.Pairwise fun a b => a.time ≤ b.time) : edges.Sublist (insertEvents edges q) := by
  induction edges generalizing q with
  | nil => exact List.nil_sublist _
  | cons e edges ih =>
    rw [← List.nil_append (e :: edges), insertEvents_eq_of_sorted q h]
    exact ((ih _ h.tail).cons_cons e).trans (List.sublist_append_right _ _)

/-- Settles O54: every row is `State.receiveFrame`, and the nominal edges, in the order of their times, split the queue as
`insertEvents_eq_of_sorted` says. -/
theorem frameRowsScheduleEdges : Obligations.FrameRowsScheduleEdges := by
  unfold Obligations.FrameRowsScheduleEdges
  intro p sp id v s i k hrow
  have hexec : exec i s =
      .next { s with inputs := insertEvents (nominalEdges (frameOf p k sp id v) s.now) s.inputs } := by
    rw [← State.receiveFrame_eq]
    simp only [List.mem_cons, List.not_mem_nil, or_false, Prod.mk.injEq] at hrow
    obtain ⟨rfl, rfl⟩ | ⟨rfl, rfl⟩ | ⟨rfl, rfl⟩ | ⟨rfl, rfl⟩ | ⟨rfl, rfl⟩ | ⟨rfl, rfl⟩ | ⟨rfl, rfl⟩ | ⟨rfl, rfl⟩ := hrow <;> rfl
  have hsorted := nominalEdges_sorted (frameOf p k sp id v) s.now
  refine ⟨_, hexec, insertEvents_perm _ _, sublist_insertEvents_of_sorted _ hsorted,
    sublist_insertEvents _ _, fun e pre post hsplit => ?_⟩
  rw [hsplit] at hsorted ⊢
  exact ⟨_, _, insertEvents_eq_of_sorted s.inputs hsorted, insertEvents_perm _ _, insertEvents_perm _ _⟩

end Sys2Proof.Machine
end

section
/-!
SUPPORT. The codec's bits: the fields of a frame as numbers, the count of ones, and the request frame (spec/40_codec.md R110 to
R116, R118 to R123).
-/

namespace Sys2Proof.Machine

open Sys2Proof.Stated

/-! ### The fields of a frame as numbers (R81) -/

theorem frameKindCode_toNat (f : Frame) : (frameKindCode f).toNat = f.toNat / 2 ^ 28 % 8 := by
  simp [frameKindCode, BitVec.extractLsb'_toNat, Nat.shiftRight_eq_div_pow]

theorem frameId_toNat (f : Frame) : (frameId f).toNat = f.toNat / 2 ^ 16 % 256 := by
  simp [frameId, BitVec.extractLsb'_toNat, Nat.shiftRight_eq_div_pow]

theorem framePayload_toNat (f : Frame) : (framePayload f).toNat = f.toNat % 65536 := by
  simp [framePayload, BitVec.extractLsb'_toNat]

theorem kindOf_eq_iff (f : Frame) (k : MessageKind) : kindOf f = k ↔ frameKindCode f = k.code := by
  refine ⟨?_, fun h => ?_⟩
  · rintro rfl
    exact (MessageKind.code_ofCode _).symm
  · rw [kindOf, h, MessageKind.ofCode_code]

/-! ### The count of ones (R110, R112) -/

theorem onesBelow_eq_sum (f : Frame) (n : Nat) : onesBelow f n = ∑ k : Fin n, (f.getLsbD k).toNat := by
  induction n with
  | zero => rfl
  | succ n ih => rw [onesBelow, ih, Fin.sum_univ_castSucc]; rfl

theorem popcount_eq_ones (f : Frame) : popcount f = ones f := by
  rw [popcount, ones, onesBelow_eq_sum, Finset.card_filter]
  exact Finset.sum_congr rfl fun k _ => by cases f.getLsbD k <;> rfl

theorem oddParity_eq_decide (f : Frame) : oddParity f = decide (ones f % 2 = 1) := by
  rw [oddParity, popcount_eq_ones, beq_eq_decide]

theorem oddParity_eq_false_iff (f : Frame) : oddParity f = false ↔ ones f % 2 = 0 := by
  rw [oddParity_eq_decide, decide_eq_false_iff_not, Nat.mod_two_not_eq_one]

/-- A valid response has an even count of ones and the kind READ_ACK or WRITE_ACK (R112). -/
theorem validResponse_iff (f : Frame) :
    validResponse f = true ↔ ones f % 2 = 0 ∧ (frameKindCode f = 0b100#3 ∨ frameKindCode f = 0b101#3) := by
  rw [← oddParity_eq_false_iff]
  cases hodd : oddParity f <;> simp [validResponse, hodd, kindOf_eq_iff, MessageKind.code]

theorem onesBelow_congr {f g : Frame} {n : Nat} (h : ∀ j < n, f.getLsbD j = g.getLsbD j) : onesBelow f n = onesBelow g n := by
  rw [onesBelow_eq_sum, onesBelow_eq_sum]
  exact Finset.sum_congr rfl fun k _ => by rw [h k k.isLt]

/-- The parity bit counts as every other bit does (R110: bit 31 included). -/
theorem oddParity_xor_parityBit (f : Frame) : oddParity (f ^^^ 0x80000000#32) = !oddParity f := by
  have hcount (g : Frame) : popcount g = onesBelow g 31 + (g.getLsbD 31).toNat := rfl
  have hlow : onesBelow (f ^^^ 0x80000000#32) 31 = onesBelow f 31 :=
    onesBelow_congr fun j hj => by interval_cases j <;> simp
  have htop : (f ^^^ 0x80000000#32).getLsbD 31 = !f.getLsbD 31 := by simp
  simp only [oddParity, hcount, hlow, htop, beq_eq_decide, ← decide_not, decide_eq_decide]
  cases f.getLsbD 31 <;> simp only [Bool.toNat_false, Bool.toNat_true, Bool.not_false, Bool.not_true] <;> omega

/-! ### BUILD_REQUEST (R111) -/

section ParityBit
variable (k : BitVec 3) (sp : BitVec 4) (id : BitVec 8) (v : BitVec 16)

theorem frameOf_one_eq_or : frameOf 1#1 k sp id v = frameOf 0#1 k sp id v ||| 1#32 <<< 31 := by
  apply BitVec.eq_of_getLsbD_eq
  intro j hj
  interval_cases j <;> simp [frameOf]

theorem frameOf_one_eq_xor : frameOf 1#1 k sp id v = frameOf 0#1 k sp id v ^^^ 0x80000000#32 := by
  apply BitVec.eq_of_getLsbD_eq
  intro j hj
  interval_cases j <;> simp [frameOf]

end ParityBit

/-- A request with a parity bit of its own: the class of the kind, the id and the payload, and no spare bit. -/
def requestWithParity (b : Bool) (k : MessageKind) (id : BitVec 8) (p : BitVec 16) : Frame :=
  frameOf (BitVec.ofBool b) (if k = .writeData then 0b001#3 else 0b000#3) 0#4 id p

theorem requestWithParity_false (k : MessageKind) (id : BitVec 8) (p : BitVec 16) :
    requestWithParity false k id p =
      if k = .writeData then (p.setWidth 32 ||| id.setWidth 32 <<< 16) ||| 1#32 <<< 28
      else p.setWidth 32 ||| id.setWidth 32 <<< 16 := by
  by_cases hk : k = .writeData <;> simp [requestWithParity, frameOf, hk, ← BitVec.or_assoc, BitVec.or_comm]

/-- BUILD_REQUEST gives the parity bit the parity of the other bits. -/
theorem requestFrame_eq (k : MessageKind) (id : BitVec 8) (p : BitVec 16) :
    requestFrame k id p = requestWithParity (oddParity (requestWithParity false k id p)) k id p := by
  simp only [requestFrame, ← requestWithParity_false]
  cases oddParity (requestWithParity false k id p)
  · rfl
  · exact (frameOf_one_eq_or ..).symm

/-- A request has an even count of ones (R111, R126). -/
theorem oddParity_requestFrame (k : MessageKind) (id : BitVec 8) (p : BitVec 16) : oddParity (requestFrame k id p) = false := by
  rw [requestFrame_eq]
  cases hodd : oddParity (requestWithParity false k id p) with
  | false => exact hodd
  | true => exact (congrArg oddParity (frameOf_one_eq_xor ..)).trans ((oddParity_xor_parityBit _).trans (congrArg not hodd))

theorem framePayload_requestFrame (k : MessageKind) (id : BitVec 8) (p : BitVec 16) : framePayload (requestFrame k id p) = p := by
  rw [requestFrame_eq]
  exact framePayload_frameOf ..

theorem frameId_requestFrame (k : MessageKind) (id : BitVec 8) (p : BitVec 16) : frameId (requestFrame k id p) = id := by
  rw [requestFrame_eq]
  exact frameId_frameOf ..

theorem frameSpare_requestFrame (k : MessageKind) (id : BitVec 8) (p : BitVec 16) : frameSpare (requestFrame k id p) = 0#4 := by
  rw [requestFrame_eq]
  exact frameSpare_frameOf ..

theorem frameKindCode_requestFrame (k : MessageKind) (id : BitVec 8) (p : BitVec 16) :
    frameKindCode (requestFrame k id p) = if k = .writeData then 0b001#3 else 0b000#3 := by
  rw [requestFrame_eq]
  exact frameKindCode_frameOf ..

end Sys2Proof.Machine
end

section
/-!
SUPPORT. The codec's operations: parity, the request, validity, the extractions, the flags, and the temperature with its
fixed-point round trip (spec/40_codec.md R110 to R127).
-/

namespace Sys2Proof.Machine

open Sys2Proof.Stated

/-! ### Bits and fields of a frame -/

/-- Settles O13: the model counts the ones as the statement does (`oddParity_eq_decide`). -/
theorem parityCountsOnes : Obligations.ParityCountsOnes := by
  unfold Obligations.ParityCountsOnes
  refine ⟨fun w v hop => by simp [decode, decodeCommand, hop, frameField], fun f s => ?_⟩
  rw [← oddParity_eq_decide]
  rfl

theorem getLsbD_of_extractLsb'_eq {f : Frame} {start n j : Nat} {x : BitVec n} (h : f.extractLsb' start n = x) (hj : j < n) :
    f.getLsbD (start + j) = x.getLsbD j := by
  simp [← h, hj]

/-- An operand keeps the bits of its field alone (R93). -/
theorem ofNat_mod_two_pow (w n : Nat) : BitVec.ofNat w (n % 2 ^ w) = BitVec.ofNat w n :=
  BitVec.eq_of_toNat_eq (by simp)

/-- Settles O14: each bit of the request is a bit of one of its fields, and its count of ones is even. -/
theorem buildRequestFrame : Obligations.BuildRequestFrame := by
  unfold Obligations.BuildRequestFrame
  refine ⟨fun w v hop => ?_, fun k id p s => ?_, fun k id p => ?_⟩
  · exact ⟨_, MessageKind.code_ofCode _, by simp [decode, decodeCommand, hop, kindField, idField, payloadField]⟩
  · have hkind {j : Nat} (hj : j < 3) := getLsbD_of_extractLsb'_eq (frameKindCode_requestFrame k id p) hj
    refine ⟨requestFrame k id p, rfl, fun j hj => ?_, fun j hj => ?_, fun j hle hlt => ?_, ?_, ?_, ?_, ?_⟩
    · simpa using getLsbD_of_extractLsb'_eq (framePayload_requestFrame k id p) hj
    · exact getLsbD_of_extractLsb'_eq (frameId_requestFrame k id p) hj
    · obtain ⟨i, rfl⟩ := Nat.exists_eq_add_of_le hle
      simpa using getLsbD_of_extractLsb'_eq (frameSpare_requestFrame k id p) (j := i) (by omega)
    · rw [hkind (j := 0) (by decide)]
      split <;> simp [*]
    · rw [hkind (j := 1) (by decide)]
      split <;> rfl
    · rw [hkind (j := 2) (by decide)]
      split <;> rfl
    · exact (oddParity_eq_false_iff _).mp (oddParity_requestFrame k id p)
  · simp only [buildRequestOf, ofNat_mod_two_pow]

theorem validResponse_eq_decide (f : Frame) :
    validResponse f = decide (ones f % 2 = 0 ∧ (f.toNat / 2 ^ 28 % 8 = 4 ∨ f.toNat / 2 ^ 28 % 8 = 5)) := by
  rw [Bool.eq_iff_iff, decide_eq_true_iff, validResponse_iff, ← frameKindCode_toNat, ← BitVec.toNat_inj, ← BitVec.toNat_inj]
  rfl

/-- Settles O15, by `validResponse_eq_decide`. -/
theorem validResponseTest : Obligations.ValidResponseTest := by
  unfold Obligations.ValidResponseTest
  refine ⟨fun w v hop => by simp [decode, decodeCommand, hop, frameField], fun f s => ?_⟩
  rw [← validResponse_eq_decide]
  rfl

/-- Settles O16: the results are the frame's fields, whose numbers `frameKindCode_toNat` and its like give. -/
theorem fieldExtractions : Obligations.FieldExtractions := by
  unfold Obligations.FieldExtractions
  refine ⟨fun w v => ?_, fun f s => ⟨⟨_, rfl, ?_⟩, ⟨_, rfl, frameId_toNat f⟩, ⟨_, rfl, framePayload_toNat f⟩⟩⟩
  · refine ⟨fun hop => ?_, fun hop => ?_, fun hop => ?_⟩ <;> simp [decode, decodeCommand, hop, frameField]
  · rw [kindOf, MessageKind.code_ofCode, frameKindCode_toNat]

theorem flagBit_eq_decide (f : Frame) (pos : Fin 8) : flagBit f pos = decide (f.toNat / 2 ^ pos.val % 2 = 1) :=
  Nat.testBit_eq_decide_div_mod_eq

/-- Settles O19, by `flagBit_eq_decide` for each of the six positions. -/
theorem statusFlags : Obligations.StatusFlags := by
  unfold Obligations.StatusFlags
  refine ⟨fun w v => ?_, by decide, fun f s => ?_⟩
  · refine ⟨fun hop => ?_, fun hop => ?_, fun hop => ?_, fun hop => ?_, fun hop => ?_, fun hop => ?_⟩ <;>
      simp [decode, decodeCommand, hop, frameField]
  · simp only [← flagBit_eq_decide]
    exact ⟨rfl, rfl, rfl, rfl, rfl, rfl⟩

/-! ### Fixed point and temperature (R116, R117) -/

theorem fixedPointOf_eq_toInt (p : BitVec 16) : fixedPointOf p = p.toInt := by
  rw [BitVec.toInt_eq_msb_cond, BitVec.msb_eq_getLsbD_last]
  rfl

theorem fixedPointOf_framePayload (f : Frame) : fixedPointOf (framePayload f) =
    if f.getLsbD 15 = true then ((f.toNat % 65536 : Nat) : Int) - 65536 else ((f.toNat % 65536 : Nat) : Int) := by
  rw [fixedPointOf, framePayload_toNat, framePayload, BitVec.getLsbD_extractLsb']
  rfl

/-- Settles O17: q is `fixedPointOf` of the payload, and both lines of R116 divide it by 256. -/
theorem fixedPointExtraction : Obligations.FixedPointExtraction := by
  unfold Obligations.FixedPointExtraction
  refine ⟨fun w v hop => by simp [decode, decodeCommand, hop, frameField], fun f s => ?_⟩
  refine ⟨_, rfl, fixedPointOf_eq_toInt _, ?_⟩
  rw [fixedPointOf_framePayload]
  generalize f.toNat % 65536 = n
  split
  · push_cast
    ring
  · rw [Int.cast_natCast]

/-- The rational `num / den` kept within [0, 100]. -/
def clampedTemperature (num : Int) (den : Nat) : ℚ := max 0 (min 100 ((num : ℚ) / den))

theorem clampedTemperature_eq_min_max (num : Int) (den : Nat) :
    clampedTemperature num den = min (max ((num : ℚ) / den) 0) 100 := by
  rw [clampedTemperature, max_min_distrib_left, max_eq_right (by norm_num : (0 : ℚ) ≤ 100), min_comm, max_comm]

theorem clampedTemperature_le (num : Int) (den : Nat) : clampedTemperature num den ≤ 100 :=
  max_le (by norm_num) (min_le_left _ _)

/-- The three cases of R117's conversion are the floor of the scaled clamped value. -/
theorem scaledTemperature_eq_floor (num : Int) {den : Nat} (hden : den ≠ 0) :
    (scaledTemperature num den : Int) = ⌊clampedTemperature num den * 256⌋ := by
  have hpos : (0 : ℚ) < den := by exact_mod_cast Nat.pos_of_ne_zero hden
  unfold scaledTemperature clampedTemperature
  split
  case isTrue hneg =>
    have hle : (num : ℚ) / den ≤ 0 := div_nonpos_of_nonpos_of_nonneg (by exact_mod_cast hneg.le) hpos.le
    rw [max_eq_left (min_le_of_right_le hle)]
    simp
  case isFalse hnonneg =>
    split
    case isTrue hbig =>
      have hle : 100 ≤ (num : ℚ) / den := (le_div_iff₀ hpos).mpr (by exact_mod_cast hbig.le)
      rw [min_eq_left hle]
      norm_num
    case isFalse hsmall =>
      have hle : (num : ℚ) / den ≤ 100 := (div_le_iff₀ hpos).mpr (by exact_mod_cast not_lt.mp hsmall)
      have hge : 0 ≤ (num : ℚ) / den := div_nonneg (by exact_mod_cast not_lt.mp hnonneg) hpos.le
      rw [min_eq_right hle, max_eq_right hge]
      lift num to Nat using not_lt.mp hnonneg
      have hfloor := Rat.floor_natCast_div_natCast (num * 256) den
      push_cast at hfloor
      rw [div_mul_eq_mul_div]
      exact hfloor.symm

/-- The scaled value fits the payload (R117). -/
theorem scaledTemperature_le (num : Int) {den : Nat} (hden : den ≠ 0) : scaledTemperature num den ≤ 25600 := by
  have hle : ⌊clampedTemperature num den * 256⌋ ≤ 25600 :=
    Int.floor_le_iff.mpr (by push_cast; linarith [clampedTemperature_le num den])
  rw [← scaledTemperature_eq_floor num hden] at hle
  exact_mod_cast hle

theorem toNat_scaledTemperature (num : Int) {den : Nat} (hden : den ≠ 0) :
    (BitVec.ofNat 16 (scaledTemperature num den)).toNat = scaledTemperature num den :=
  Nat.mod_eq_of_lt ((scaledTemperature_le num hden).trans_lt (by decide))

theorem temperatureOf_ratio (num : Int) {den : Nat} (hden : den ≠ 0) :
    temperatureOf (.ratio num den) = some (BitVec.ofNat 16 (scaledTemperature num den)) := if_neg hden

theorem exec_tempToF88_of_some {v : Value} {p : BitVec 16} (s : State) (h : temperatureOf v = some p) :
    exec (.tempToF88 v) s = .next (s.pushResult (.payload p)) := by
  simp [exec, execTempToF88, h]

theorem exec_tempToF88_of_none {v : Value} (s : State) (h : temperatureOf v = none) :
    exec (.tempToF88 v) s = .next (s.refuse .notANumber) := by
  simp [exec, execTempToF88, h]

/-- Settles O18, by `scaledTemperature_eq_floor`; what is no rational has no temperature and is refused. -/
theorem temperatureConversion : Obligations.TemperatureConversion := by
  unfold Obligations.TemperatureConversion
  refine ⟨fun w v hop => by simp [decode, decodeCommand, hop], fun num den s hden => ?_, fun v s hv hmark => ?_⟩
  · refine ⟨_, exec_tempToF88_of_some s (temperatureOf_ratio num hden), ?_⟩
    rw [toNat_scaledTemperature num hden]
    exact scaledTemperature_eq_floor num hden
  · have hnone : temperatureOf v = none := by obtain rfl | rfl | rfl := hv <;> rfl
    rw [exec_tempToF88_of_none s hnone, State.refuse_of_mark_eq_none _ hmark]

/-! ### The laws (R124, R126) -/

/-- The extraction reads back the scaled value that the conversion wrote. -/
theorem fixedPointOf_scaledTemperature (num : Int) {den : Nat} (hden : den ≠ 0) :
    fixedPointOf (BitVec.ofNat 16 (scaledTemperature num den)) = ⌊clampedTemperature num den * 256⌋ := by
  have hle := scaledTemperature_le num hden
  rw [fixedPointOf_eq_toInt, BitVec.toInt_eq_toNat_of_lt, toNat_scaledTemperature num hden,
    scaledTemperature_eq_floor num hden]
  rw [toNat_scaledTemperature num hden]
  omega

/-- Settles O20: the field lemmas of `requestFrame`, the floor of `fixedPointOf_scaledTemperature`, and
`oddParity_xor_parityBit`. -/
theorem codecLaws : Obligations.CodecLaws := by
  unfold Obligations.CodecLaws
  refine ⟨fun k id p => ⟨oddParity_requestFrame k id p, ?_, framePayload_requestFrame k id p, frameId_requestFrame k id p, ?_⟩,
    fun num den f hden hconv => ?_, fun f hvalid => ?_⟩
  · rw [kindOf_eq_iff, frameKindCode_requestFrame]
    split <;> rfl
  · rw [← Bool.not_eq_true, validResponse_iff, frameKindCode_requestFrame]
    split <;> simp
  · rw [temperatureOf_ratio num hden, Option.some_inj] at hconv
    rw [← clampedTemperature_eq_min_max, ← hconv, fixedPointOf_scaledTemperature num hden]
    have hfloor := Int.floor_le (clampedTemperature num den * 256)
    have hlt := Int.lt_floor_add_one (clampedTemperature num den * 256)
    constructor <;> linarith
  · have heven : oddParity f = false := (oddParity_eq_false_iff f).mpr ((validResponse_iff f).mp hvalid).1
    rw [validResponse, oddParity_xor_parityBit, heven]
    rfl

/-- Settles O21: each operation has one result for all states that agree on FLAG_POS; a mark that stands is kept. -/
theorem codecIsPure : Obligations.CodecIsPure := by
  unfold Obligations.CodecIsPure
  refine ⟨fun i p hcodec hrational => ?_, fun v s hnone => ?_⟩
  · cases i with
    | tempToF88 v =>
      obtain ⟨q, hq⟩ := Option.ne_none_iff_exists'.mp (hrational v rfl)
      exact ⟨_, fun s _ => exec_tempToF88_of_some s hq⟩
    | isFault f => exact ⟨.bit (flagBit f p.fault), fun s hpos => by subst hpos; rfl⟩
    | isChActive f => exact ⟨.bit (flagBit f p.chActive), fun s hpos => by subst hpos; rfl⟩
    | isDhwActive f => exact ⟨.bit (flagBit f p.dhwActive), fun s hpos => by subst hpos; rfl⟩
    | isFlameOn f => exact ⟨.bit (flagBit f p.flameOn), fun s hpos => by subst hpos; rfl⟩
    | isCoolingActive f => exact ⟨.bit (flagBit f p.coolingActive), fun s hpos => by subst hpos; rfl⟩
    | isDiagnostic f => exact ⟨.bit (flagBit f p.diagnostic), fun s hpos => by subst hpos; rfl⟩
    | parity _ | buildRequest _ _ _ | isValidResponse _ | getKind _ | getDataId _ | getU16 _ | getF88 _ =>
      exact ⟨_, fun s _ => rfl⟩
    | _ => cases hcodec
  · rw [exec_tempToF88_of_none s hnone]
    cases hmark : s.mark <;> simp [State.refuse, hmark]

end Sys2Proof.Machine
end

section
/-!
SUPPORT. The transmitter: one pass of its loop, its completion, and a whole transmission (spec/41_transmitter.md R140 to R143;
spec/43_session.md R184, R185).
-/

namespace Sys2Proof.Machine

open Sys2Proof.Stated

/-! ### One step -/

/-- While half-bits are left TRANSMIT makes a pass of the loop (R140). -/
theorem exec_transmit_of_lt {s : State} (f : Frame) (h : s.txH.toNat < 68) :
    exec (.transmit f) s = .next (s.driveHalfBit f) :=
  if_pos (BitVec.lt_def.mpr h)

/-- After the last half-bit TRANSMIT completes (R143). -/
theorem exec_transmit_of_le {s : State} (f : Frame) (h : 68 ≤ s.txH.toNat) :
    exec (.transmit f) s = .next s.finishTransmit :=
  if_neg fun hlt => Nat.not_lt.mpr h (BitVec.lt_def.mp hlt)

/-- A bit is ACTIVE in one of its two half-bits: the first for a 1, the second for a 0 (R86). -/
theorem ofLevel_halfBit (f : Frame) (k : Nat) :
    TxLine.ofLevel (halfBit f k) = if lineBit f (k / 2) = decide (k % 2 = 0) then .active else .idle := by
  by_cases heven : k % 2 = 0 <;> cases hbit : lineBit f (k / 2) <;> simp [halfBit, TxLine.ofLevel, heven, hbit]

/-- A pass of the loop drives the half-bit and nothing else but its counter and its hold (R141, R142). -/
theorem State.driveHalfBit_frame (s : State) (f : Frame) :
    s.driveHalfBit f = { s with
      txLine := if lineBit f (s.txH.toNat / 2) = decide (s.txH.toNat % 2 = 0) then .active else .idle
      txH := s.txH + 1
      holdUntil := s.now + 500 } := by
  rw [← ofLevel_halfBit]
  rfl

/-- Settles O22, by `State.driveHalfBit_frame`. -/
theorem transmitHalfBit : Obligations.TransmitHalfBit := by
  unfold Obligations.TransmitHalfBit
  exact fun f s h => (exec_transmit_of_lt f h).trans (congrArg _ (s.driveHalfBit_frame f))

/-- Settles O23: what the completion does to `port` and the result depends on `waitAfterTx` (R184, R185). -/
theorem transmitCompletion : Obligations.TransmitCompletion := by
  unfold Obligations.TransmitCompletion
  intro f s h
  rw [exec_transmit_of_le f h]
  refine ⟨fun hsend => congrArg _ ?_, fun hwait => congrArg _ ?_⟩
  · exact if_neg (by simp [hsend])
  · exact if_pos hwait

/-! ### A whole transmission -/

/-- The moves of a transmission from move `k` on, and what comes after them. -/
def movesFrom (t0 : Nat) (rest : List Event) (k : Nat) : List Event := (transmitMoves t0).drop k ++ rest

theorem movesFrom_eq_cons (t0 : Nat) (rest : List Event) {k : Nat} (h : k < 69) :
    movesFrom t0 rest k = { time := t0 + 500 * k, input := .resume } :: movesFrom t0 rest (k + 1) := by
  have hlen : k < (transmitMoves t0).length := by simpa [transmitMoves] using h
  rw [movesFrom, List.drop_eq_getElem_cons hlen]
  simp [movesFrom, transmitMoves]

theorem movesFrom_last (t0 : Nat) (rest : List Event) : movesFrom t0 rest 69 = rest := by
  rw [movesFrom, List.drop_eq_nil_of_le (by simp [transmitMoves]), List.nil_append]

/-- The state after half-bit `k` of a transmission that began at `t0` in `s`, every hold at its minimum. -/
def State.afterHalfBit (s : State) (t0 : Nat) (rest : List Event) (k : Nat) : State :=
  { s with
    txLine := TxLine.ofLevel (halfBit s.txFrame k), txH := BitVec.ofNat 7 (k + 1), holdUntil := t0 + 500 * (k + 1),
    now := t0 + 500 * k, inputs := movesFrom t0 rest (k + 1) }

/-- A run of one step more is the run and a step from its end. -/
theorem core_run_succ_of_run {k : Nat} {s t u : State} (hrun : core.run k s = .next t) (hstep : step t = .next u) :
    core.run (k + 1) s = .next u := by
  induction k generalizing s with
  | zero =>
    cases hrun
    exact (core_run_succ 0 _ _).mpr ⟨u, hstep, rfl⟩
  | succ k ih =>
    obtain ⟨v, hv, hrun⟩ := (core_run_succ k s t).mp hrun
    exact (core_run_succ (k + 1) s u).mpr ⟨v, hv, ih hrun⟩

/-- A move of the transmitter at half-bit `k`, on time, drives that half-bit. -/
theorem step_drivesHalfBit {s : State} {t0 k : Nat} {rest : List Event} (hin : s.inputs = movesFrom t0 rest k)
    (hport : s.port = .tx) (hh : s.txH = BitVec.ofNat 7 k) (hk : k < 68) (hnow : s.now ≤ t0 + 500 * k)
    (hhold : s.holdUntil ≤ t0 + 500 * k) (hclock : t0 + 34000 < 2 ^ s.cfg.clockWidth) :
    step s = .next (s.afterHalfBit t0 rest k) := by
  have hhalf : s.txH.toNat = k := by rw [hh, BitVec.toNat_ofNat, Nat.mod_eq_of_lt (by omega)]
  have hnext : s.txH + 1#7 = BitVec.ofNat 7 (k + 1) := by rw [hh, BitVec.ofNat_add]
  rw [movesFrom_eq_cons t0 rest (by omega)] at hin
  rw [stepRunsTransmit s _ _ hin hport hnow hhold (by omega), exec_transmit_of_lt _ (by exact hhalf.trans_lt hk)]
  simp [State.driveHalfBit, State.afterHalfBit, State.drive, State.hold, tHalf, Nat.mul_succ, Nat.add_assoc, hhalf, hnext]

section Transmission

variable {s : State} {t0 : Nat} {rest : List Event} (hport : s.port = .tx)
  (hclock : t0 + 34000 < 2 ^ s.cfg.clockWidth)
include hport hclock

/-- The next move comes as the hold ends, and drives the next half-bit (R142). -/
theorem State.step_afterHalfBit {k : Nat} (hk : k + 1 < 68) :
    step (s.afterHalfBit t0 rest k) = .next (s.afterHalfBit t0 rest (k + 1)) :=
  step_drivesHalfBit (s := s.afterHalfBit t0 rest k) rfl hport rfl hk
    (by simp only [State.afterHalfBit]; omega) le_rfl hclock

/-- The move after the last half-bit completes SEND (R143, R184). -/
theorem State.step_afterHalfBit_last (hwait : s.waitAfterTx = false) :
    step (s.afterHalfBit t0 rest 67) = .next { s with
      txLine := .idle, txH := 68, state := .awaitingStart, ts := t0 + 34000, port := .free, holdUntil := t0 + 34000,
      now := t0 + 34000, inputs := rest, resultLog := s.resultLog ++ [.accepted true] } := by
  have hin : (s.afterHalfBit t0 rest 67).inputs = { time := t0 + 34000, input := .resume } :: rest :=
    (movesFrom_eq_cons t0 rest (by omega)).trans (by rw [movesFrom_last])
  rw [stepRunsTransmit _ _ _ hin hport (by simp [State.afterHalfBit]) le_rfl hclock]
  exact (transmitCompletion _ _ le_rfl).left hwait

/-- `k + 1` moves drive half-bits 0 to `k`. -/
theorem State.run_afterHalfBit (hin : s.inputs = transmitMoves t0 ++ rest) (hh : s.txH = 0) (hnow : s.now ≤ t0)
    (hhold : s.holdUntil ≤ t0) {k : Nat} (hk : k < 68) : core.run (k + 1) s = .next (s.afterHalfBit t0 rest k) := by
  induction k with
  | zero => exact core_run_succ_of_run rfl (step_drivesHalfBit hin hport hh hk hnow hhold hclock)
  | succ k ih => exact core_run_succ_of_run (ih (by omega)) (State.step_afterHalfBit hport hclock hk)

end Transmission

/-- Settles O24: `State.run_afterHalfBit` up to each half-bit, and one step more after the last. -/
theorem wholeTransmission : Obligations.WholeTransmission := by
  unfold Obligations.WholeTransmission
  intro s rest t0 hport hh hwait hnow hhold hclock hin
  have hrun (k : Nat) (hk : k < 68) : core.run (k + 1) s = .next (s.afterHalfBit t0 rest k) :=
    State.run_afterHalfBit hport hclock hin hh hnow hhold hk
  refine ⟨fun k hk => ⟨_, hrun k hk, rfl, rfl, hport⟩, ?_⟩
  exact ⟨_, core_run_succ_of_run (hrun 67 (by omega)) (State.step_afterHalfBit_last hport hclock hwait),
    rfl, rfl, rfl, rfl, rfl, rfl⟩

end Sys2Proof.Machine
end

section
/-!
SUPPORT. The decoder: what an edge does in each of its three receiving-capable states (spec/42_decoder.md R152 to R157).
-/

namespace Sys2Proof.Machine

section States
variable {s : State} (l : Level) (hen : s.edgeEn = true)
include hen

/-- In AWAITING_START an edge is the first of the response (R152). -/
theorem State.takeEdge_of_awaitingStart (hst : s.state = .awaitingStart) : s.takeEdge l = s.firstEdge l := by
  simp [State.takeEdge, hen, hst]

/-- In START_RECEIVED an edge is the middle of the start bit (R153). -/
theorem State.takeEdge_of_startReceived (hst : s.state = .startReceived) : s.takeEdge l = s.startBitEdge l := by
  simp [State.takeEdge, hen, hst]

/-- In RECEIVING, past the threshold and with fewer than 32 bits counted, an edge is a data bit (R155). -/
theorem State.takeEdge_of_dataBit (hst : s.state = .receiving) (hlate : tSample < s.elapsed s.ts)
    (hbit : s.bitcount < 32#6) : s.takeEdge l = s.dataEdge l := by
  simp [State.takeEdge, hen, hst, State.receivingEdge, Nat.not_le.mpr hlate, hbit]

/-- In RECEIVING, past the threshold and with no fewer than 32 bits counted, an edge is the stop bit (R156). -/
theorem State.takeEdge_of_stopBit (hst : s.state = .receiving) (hlate : tSample < s.elapsed s.ts)
    (hbit : ¬ s.bitcount < 32#6) : s.takeEdge l = s.stopEdge l := by
  simp [State.takeEdge, hen, hst, State.receivingEdge, Nat.not_le.mpr hlate, hbit]

end States

/-- Settles O26, by the two levels of `State.firstEdge`. -/
theorem firstEdge : Obligations.FirstEdge := by
  unfold Obligations.FirstEdge
  intro s l hen hst
  rw [exec_edge, State.takeEdge_of_awaitingStart l hen hst]
  cases l <;> rfl

/-- Settles O27: the condition of `State.startBitEdge` is the statement's. -/
theorem startBitEdge : Obligations.StartBitEdge := by
  unfold Obligations.StartBitEdge
  intro s l hen hst
  rw [exec_edge, State.takeEdge_of_startReceived l hen hst]
  exact ⟨fun hidle => congrArg _ (if_pos hidle), fun hbad => congrArg _ (if_neg hbad)⟩

/-- A shift of one bit into an accumulator doubles it and adds the bit; what leaves 32 bits is lost (R155). -/
theorem toNat_shiftIn (r : Frame) (b : BitVec 1) :
    (r <<< 1 ||| b.setWidth 32).toNat = (2 * r.toNat + b.toNat) % 2 ^ 32 := by
  have hdisjoint : r <<< 1 &&& b.setWidth 32 = 0#32 := by
    apply BitVec.eq_of_getLsbD_eq
    intro j hj
    cases j <;> simp
  rw [← BitVec.add_eq_or_of_and_eq_zero _ _ hdisjoint, BitVec.toNat_add, BitVec.toNat_shiftLeft, BitVec.toNat_setWidth,
    Nat.shiftLeft_eq, pow_one, ← Nat.add_mod, Nat.mul_comm]

/-- Settles O28: the data bit is `State.dataEdge`, whose accumulator is `toNat_shiftIn` of the level's complement. -/
theorem dataBit : Obligations.DataBit := by
  unfold Obligations.DataBit
  intro s l hen hst hlate hcount
  rw [exec_edge, State.takeEdge_of_dataBit l hen hst hlate (BitVec.lt_def.mpr hcount)]
  refine ⟨_, _, rfl, (toNat_shiftIn _ _).trans ?_, ?_⟩
  · cases l <;> rfl
  · bv_omega

/-- Settles O29: the level that `State.stopEdge` refuses is ACTIVE, and only under STOP_BIT_CHECK. -/
theorem stopBit : Obligations.StopBit := by
  unfold Obligations.StopBit
  intro s l hen hst hlate hcount
  rw [exec_edge, State.takeEdge_of_stopBit l hen hst hlate (by simp [hcount]), State.stopEdge]
  cases l <;> cases s.cfg.stopBitCheck <;> rfl

/-- Settles O30, by `State.takeEdge_frame`. -/
theorem edgeFrameRule : Obligations.EdgeFrameRule := by
  unfold Obligations.EdgeFrameRule
  exact fun s l => ⟨_, _, _, _, (exec_edge l s).trans (congrArg _ (s.takeEdge_frame l))⟩

end Sys2Proof.Machine
end

section
/-!
SUPPORT. The nominal edges of a frame, delivered one by one, are decoded to that frame (spec/42_decoder.md R158).
-/

namespace Sys2Proof.Machine

/-! ### Runs through receiving states -/

/-- `n` steps lead from `s` to `t`, and through no other state than START_RECEIVED and RECEIVING on the way. -/
def State.ReceivesTo (n : Nat) (s t : State) : Prop :=
  core.run n s = .next t ∧
    ∀ k, 0 < k → k < n → ∃ u, core.run k s = .next u ∧ (u.state = .startReceived ∨ u.state = .receiving)

theorem State.ReceivesTo.single {s t : State} (h : step s = .next t) : s.ReceivesTo 1 t :=
  ⟨(core_run_succ 0 s t).mpr ⟨t, h, rfl⟩, fun _ hpos hlt => absurd hlt (Nat.not_lt.mpr hpos)⟩

theorem State.ReceivesTo.cons {n : Nat} {s t u : State} (hstep : step s = .next u)
    (hu : u.state = .startReceived ∨ u.state = .receiving) (h : u.ReceivesTo n t) : s.ReceivesTo (n + 1) t := by
  obtain ⟨hrun, hthrough⟩ := h
  refine ⟨(core_run_succ n s t).mpr ⟨u, hstep, hrun⟩, fun k hpos hlt => ?_⟩
  obtain _ | _ | k := k
  · exact absurd hpos (Nat.lt_irrefl 0)
  · exact ⟨u, (core_run_succ 0 s u).mpr ⟨u, hstep, rfl⟩, hu⟩
  · obtain ⟨v, hv, hst⟩ := hthrough (k + 1) (Nat.succ_pos k) (Nat.lt_of_succ_lt_succ hlt)
    exact ⟨v, (core_run_succ (k + 1) s v).mpr ⟨u, hstep, hv⟩, hst⟩

/-! ### One nominal edge -/

/-- The edge at a half-bit, delivered on time, is taken with that half-bit's level (R67, R69). -/
theorem step_halfBitEdge {s : State} {R : Frame} {t0 k : Nat} {q : List Event} (hin : s.inputs = halfBitEdge R t0 k :: q)
    (hnow : s.now ≤ t0 + k * tHalf) (hclock : t0 + k * tHalf < 2 ^ s.cfg.clockWidth) :
    step s = .next (({ s with inputs := q, now := t0 + k * tHalf } : State).takeEdge (halfBit R k)) := by
  have hdecode : decode (.edge (edgeWord (halfBit R k))) = .ok (.edge (halfBit R k)) :=
    decodeOfEncode (.edge (halfBit R k)) rfl
  exact stepRunsEdgesAndFrames.1 s q _ _ _ hin hdecode hnow hclock

/-- The edges from the middle of a bit on begin there (R89). -/
theorem edgesFrom_odd (R : Frame) (t0 j n : Nat) :
    edgesFrom R t0 (2 * j + 1) (n + 1) = halfBitEdge R t0 (2 * j + 1) :: edgesFrom R t0 (2 * (j + 1)) n := by
  rw [edgesFrom, if_neg (halfBit_odd_ne R j)]
  rfl

/-- The first `j` bits of a frame with the next one shifted in are its first `j + 1` bits, behind what was there before. -/
theorem shiftIn_leadingBits (r R : Frame) {j : Nat} (hj : j < 32) :
    (r <<< j ||| R >>> (32 - j)) <<< 1 ||| (BitVec.ofBool (R.getLsbD (31 - j))).setWidth 32 =
      r <<< (j + 1) ||| R >>> (32 - (j + 1)) := by
  apply BitVec.eq_of_getLsbD_eq
  intro i hi
  cases i with
  | zero =>
    have h : 32 - (j + 1) = 31 - j := by omega
    simp [h]
  | succ i =>
    have h : 32 - j + i = 31 - j + (i + 1) := by omega
    by_cases hij : i < j <;> simp [hij, hi, h]

/-- The level after the middle of a bit is the bit's complement (R88). -/
theorem complement_bit_halfBit_odd (R : Frame) (j : Nat) : ~~~(halfBit R (2 * j + 1)).bit = BitVec.ofBool (lineBit R j) := by
  rw [halfBit_odd]
  cases lineBit R j <;> rfl

/-- The data bits follow the start bit, most significant first (R87). -/
theorem lineBit_succ (R : Frame) {j : Nat} (hj : j < 32) : lineBit R (j + 1) = R.getLsbD (31 - j) := by
  have hnone : ¬ (j + 1 = 0 ∨ j + 1 = 33) := by omega
  rw [lineBit, if_neg hnone, Nat.add_comm, Nat.sub_add_eq]

/-! ### The decoder's course -/

/-- The decoder `j` bits into a frame `R` whose nominal edges began at `t0` in `s`: it holds these bits, and its last sample was
in the middle of the `j`th, the start bit being the 0th. -/
def State.received (s : State) (R : Frame) (t0 j now : Nat) (q : List Event) : State :=
  { s with
    state := .receiving, response := s.response <<< j ||| R >>> (32 - j), bitcount := BitVec.ofNat 6 j,
    ts := t0 + (2 * j + 1) * tHalf, now := now, inputs := q }

/-- The decoder after the stop bit of a frame `R` whose nominal edges began at `t0` in `s`. -/
def State.decoded (s : State) (R : Frame) (t0 : Nat) (q : List Event) : State :=
  { s with state := .frameReady, response := R, bitcount := 32, ts := t0 + 33500, now := t0 + 33500, inputs := q }

section Course
variable {s : State} {R : Frame} {t0 : Nat} {q : List Event}
  (hclock : t0 + 33500 < 2 ^ s.cfg.clockWidth) (hen : s.edgeEn = true)
include hclock

/-- While a frame is received its next edge comes on time. -/
theorem State.step_received {j now k : Nat} (hnow : now ≤ t0 + k * tHalf) (hk : k < 68) :
    step (s.received R t0 j now (halfBitEdge R t0 k :: q)) =
      .next ((s.received R t0 j (t0 + k * tHalf) q).takeEdge (halfBit R k)) :=
  step_halfBitEdge rfl hnow (lt_of_le_of_lt (by unfold tHalf; omega) hclock)

/-- At half-bit `k` the last sample is as many half-bits ago as the middle of bit `j`. -/
theorem State.elapsed_received {j k : Nat} (hle : 2 * j + 1 ≤ k) (hk : k < 68) :
    (s.received R t0 j (t0 + k * tHalf) q).elapsed (s.received R t0 j (t0 + k * tHalf) q).ts =
      (k - (2 * j + 1)) * tHalf := by
  have hnow : t0 + k * tHalf < 2 ^ s.cfg.clockWidth := lt_of_le_of_lt (by unfold tHalf; omega) hclock
  have hts : t0 + (2 * j + 1) * tHalf ≤ t0 + k * tHalf := by gcongr
  rw [Nat.sub_mul, ← Nat.add_sub_add_left t0]
  exact State.elapsed_eq_sub (s.received R t0 j (t0 + k * tHalf) q) _ hts hnow

/-- An edge between two bits comes one half-bit after the last sample and is ignored (R154). -/
theorem State.step_received_boundary {j now : Nat} (hj : j ≤ 32) (hnow : now ≤ t0 + 2 * (j + 1) * tHalf) :
    step (s.received R t0 j now (halfBitEdge R t0 (2 * (j + 1)) :: q)) =
      .next (s.received R t0 j (t0 + 2 * (j + 1) * tHalf) q) := by
  have helapsed := State.elapsed_received (R := R) (q := q) hclock (j := j) (k := 2 * (j + 1)) (by omega) (by omega)
  have hearly : (2 * (j + 1) - (2 * j + 1)) * tHalf ≤ tSample := by
    unfold tHalf tSample
    omega
  rw [State.step_received hclock hnow (by omega),
    State.takeEdge_eq_self _ (.inr (.inr ⟨rfl, helapsed.trans_le hearly⟩))]

/-- The middle of a bit comes two half-bits after the last sample, past the threshold. -/
theorem State.tSample_lt_elapsed_received {j : Nat} (hj : j ≤ 32) :
    tSample < (s.received R t0 j (t0 + (2 * (j + 1) + 1) * tHalf) q).elapsed
      (s.received R t0 j (t0 + (2 * (j + 1) + 1) * tHalf) q).ts := by
  rw [State.elapsed_received hclock (by omega) (by omega)]
  unfold tHalf tSample
  omega

/-- A boundary edge, where there is one, changes nothing of what the edges after it lead to. -/
theorem State.receivesTo_of_middle {t : State} {j now n : Nat} (hj : j ≤ 32) (hnow : now ≤ t0 + 2 * (j + 1) * tHalf)
    (hmiddle : ∀ now ≤ t0 + (2 * (j + 1) + 1) * tHalf,
      (s.received R t0 j now (edgesFrom R t0 (2 * (j + 1) + 1) n ++ q)).ReceivesTo
        (edgesFrom R t0 (2 * (j + 1) + 1) n).length t) :
    (s.received R t0 j now (edgesFrom R t0 (2 * (j + 1)) (n + 1) ++ q)).ReceivesTo
      (edgesFrom R t0 (2 * (j + 1)) (n + 1)).length t := by
  have hlater : t0 + 2 * (j + 1) * tHalf ≤ t0 + (2 * (j + 1) + 1) * tHalf := by gcongr; omega
  rw [edgesFrom]
  split
  · exact hmiddle now (hnow.trans hlater)
  · exact .cons (State.step_received_boundary hclock hj hnow) (.inr rfl) (hmiddle _ hlater)

include hen

/-- The edge in the middle of a data bit is sampled (R155). -/
theorem State.step_received_dataBit {j now : Nat} (hj : j < 32) (hnow : now ≤ t0 + (2 * (j + 1) + 1) * tHalf) :
    step (s.received R t0 j now (halfBitEdge R t0 (2 * (j + 1) + 1) :: q)) =
      .next (s.received R t0 (j + 1) (t0 + (2 * (j + 1) + 1) * tHalf) q) := by
  have hcount : BitVec.ofNat 6 j < 32#6 := by
    rw [BitVec.lt_def, BitVec.toNat_ofNat, Nat.mod_eq_of_lt (by omega)]
    exact hj
  have hnext : BitVec.ofNat 6 j + 1 = BitVec.ofNat 6 (j + 1) := (BitVec.ofNat_add j 1).symm
  rw [State.step_received hclock hnow (by omega),
    State.takeEdge_of_dataBit _ (by exact hen) rfl (State.tSample_lt_elapsed_received hclock hj.le) hcount]
  simp only [State.dataEdge, State.received, complement_bit_halfBit_odd, lineBit_succ R hj, shiftIn_leadingBits _ R hj,
    hnext]

/-- The edge in the middle of the stop bit is IDLE and ends the frame (R156). -/
theorem State.step_received_stopBit {now : Nat} (hnow : now ≤ t0 + 67 * tHalf) :
    step (s.received R t0 32 now (halfBitEdge R t0 67 :: q)) = .next (s.decoded R t0 q) := by
  have hidle : halfBit R 67 = .idle := halfBit_odd R 33
  rw [State.step_received hclock hnow (by omega),
    State.takeEdge_of_stopBit _ (by exact hen) rfl (State.tSample_lt_elapsed_received hclock le_rfl) (Nat.lt_irrefl 32),
    hidle]
  simp [State.stopEdge, State.received, State.decoded, tHalf]

/-- The edges after the middle of bit `j` lead to the whole frame. -/
theorem State.received_receivesTo (d : Nat) {j now : Nat} (hd : j + d = 32) (hnow : now ≤ t0 + 2 * (j + 1) * tHalf) :
    (s.received R t0 j now (edgesFrom R t0 (2 * (j + 1)) (2 * d + 2) ++ q)).ReceivesTo
      (edgesFrom R t0 (2 * (j + 1)) (2 * d + 2)).length (s.decoded R t0 q) := by
  induction d generalizing j now with
  | zero =>
    obtain rfl : j = 32 := hd
    refine State.receivesTo_of_middle hclock le_rfl hnow fun now hnow => ?_
    rw [edgesFrom_odd]
    exact .single (State.step_received_stopBit hclock hen hnow)
  | succ d ih =>
    refine State.receivesTo_of_middle hclock (by omega) hnow fun now hnow => ?_
    rw [edgesFrom_odd]
    exact .cons (State.step_received_dataBit hclock hen (by omega) hnow) (.inr rfl)
      (ih (by omega) (by unfold tHalf; omega))

end Course

/-! ### The whole frame -/

/-- The decoder after the first edge of a frame at `t0` (R152). -/
def State.started (s : State) (t0 now : Nat) (q : List Event) : State :=
  { s with state := .startReceived, ts := t0, now := now, inputs := q }

/-- The two edges of the start bit come first, whatever the frame. -/
theorem nominalEdges_eq_cons (R : Frame) (t0 : Nat) :
    nominalEdges R t0 = halfBitEdge R t0 0 :: halfBitEdge R t0 1 :: edgesFrom R t0 2 66 :=
  congrArg (halfBitEdge R t0 0 :: ·) (edgesFrom_odd R t0 0 66)

section Start
variable {s : State} {R : Frame} {t0 : Nat} {q : List Event} (hen : s.edgeEn = true)
include hen

/-- The first edge is ACTIVE. -/
theorem State.step_firstEdge (hin : s.inputs = halfBitEdge R t0 0 :: q) (hst : s.state = .awaitingStart)
    (hnow : s.now ≤ t0) (hclock : t0 < 2 ^ s.cfg.clockWidth) : step s = .next (s.started t0 t0 q) := by
  have hactive : halfBit R 0 = .active := halfBit_even R 0
  rw [step_halfBitEdge hin (by omega) (by omega), State.takeEdge_of_awaitingStart _ (by exact hen) (by exact hst), hactive]
  simp [State.firstEdge, State.started]

/-- The second edge, in the middle of the start bit, is IDLE and comes 500 µs after the first: no data bit has been received
yet. -/
theorem State.step_started (hclock : t0 + 1 * tHalf < 2 ^ s.cfg.clockWidth) :
    step (s.started t0 t0 (halfBitEdge R t0 1 :: q)) = .next (s.received R t0 0 (t0 + 1 * tHalf) q) := by
  have hstep : step (s.started t0 t0 (halfBitEdge R t0 1 :: q)) =
      .next ((s.started t0 (t0 + 1 * tHalf) q).takeEdge (halfBit R 1)) :=
    step_halfBitEdge rfl (Nat.le_add_right t0 _) hclock
  have helapsed : (s.started t0 (t0 + 1 * tHalf) q).elapsed t0 = 1 * tHalf :=
    (State.elapsed_eq_sub _ t0 (Nat.le_add_right t0 _) hclock).trans (Nat.add_sub_cancel_left t0 _)
  have hidle : halfBit R 1 = .idle := halfBit_odd R 0
  have hnone : R >>> 32 = 0#32 := BitVec.ushiftRight_eq_zero le_rfl
  rw [hstep, State.takeEdge_of_startReceived _ (by exact hen) rfl, hidle, State.startBitEdge,
    if_pos ⟨helapsed.trans_lt (by decide), rfl⟩]
  simp [State.received, State.started, hnone]

end Start

/-- Settles O31: the first two edges lead to RECEIVING with no bit counted, and from there `State.received_receivesTo`, by
induction on the bits still to come, to the whole frame. -/
theorem nominalDecoding : Obligations.NominalDecoding := by
  unfold Obligations.NominalDecoding
  intro s R t0 q hst hen hnow hclock hin
  have hreceives : s.ReceivesTo (nominalEdges R t0).length (s.decoded R t0 q) := by
    rw [nominalEdges_eq_cons] at hin ⊢
    exact .cons (State.step_firstEdge hen hin hst hnow (by omega)) (.inl rfl)
      (.cons (State.step_started hen (by unfold tHalf; omega)) (.inr rfl)
        (State.received_receivesTo hclock hen 32 rfl (by unfold tHalf; omega)))
  obtain ⟨hrun, hthrough⟩ := hreceives
  exact ⟨hthrough, hrun⟩

end Sys2Proof.Machine
end

section
/-!
SUPPORT. How often the decoder can write `ts` between two accepted sends (spec/42_decoder.md R161).
-/

namespace Sys2Proof.Machine

open Sys2Proof.Stated

/-! ### The budget -/

theorem edgeBudget_le (s : State) : edgeBudget s ≤ 35 := by
  unfold edgeBudget
  split <;> omega

/-- A receiving-capable state that has counted no more than 32 bits can still write `ts`. -/
theorem edgeBudget_pos {s : State} (hcount : s.bitcount.toNat ≤ 32)
    (hst : s.state = .awaitingStart ∨ s.state = .startReceived ∨ s.state = .receiving) : 0 < edgeBudget s := by
  obtain hst | hst | hst := hst <;> simp only [edgeBudget, hst] <;> omega

/-- Only the receiving-capable states have a budget. -/
theorem edgeBudget_eq_zero {s : State} (hst : s.state ≠ .awaitingStart ∧ s.state ≠ .startReceived ∧ s.state ≠ .receiving) :
    edgeBudget s = 0 := by
  obtain ⟨hawait, hstart, hrec⟩ := hst
  unfold edgeBudget
  split <;> simp_all

/-- An edge that changes anything lowers the budget (R152 to R156). -/
theorem State.takeEdge_eq_self_or_lt {s : State} (l : Level) (hcount : s.bitcount.toNat ≤ 32) :
    s.takeEdge l = s ∨ edgeBudget (s.takeEdge l) < edgeBudget s := by
  rcases s.takeEdge_cases l with ⟨-, h⟩ | ⟨-, hst, -, h⟩ | ⟨-, hst, -, h⟩ | ⟨-, hst, -, h⟩ | ⟨-, hst, -, h⟩ |
    ⟨-, hst, ⟨-, hlt⟩, h⟩ | ⟨-, hst, -, h⟩ | ⟨-, hst, -, h⟩ <;> rw [h]
  · exact .inl rfl
  · simp [edgeBudget, hst]
  · simp [edgeBudget, hst]
  · simp [edgeBudget, hst]
  · simp [edgeBudget, hst]
  · have hsucc : (s.bitcount + 1).toNat = s.bitcount.toNat + 1 := by bv_omega
    have hbit : s.bitcount.toNat < 32 := hlt
    right
    simp only [edgeBudget, hst, State.dataEdge_state, State.dataEdge_bitcount, hsucc]
    omega
  · exact .inr (edgeBudget_pos hcount (.inr (.inr hst)))
  · exact .inr (edgeBudget_pos hcount (.inr (.inr hst)))

/-! ### What a step does to the budget -/

/-- From `s` to `t` the budget is not raised, and `ts` is changed only at its expense. -/
def State.Spends (s t : State) : Prop :=
  (t.ts = s.ts ∧ edgeBudget t ≤ edgeBudget s) ∨ edgeBudget t < edgeBudget s

/-- What leaves the session state, the counter and the timestamp spends nothing. -/
theorem State.Spends.of_eq {s t : State} (hst : t.state = s.state) (hcount : t.bitcount = s.bitcount) (hts : t.ts = s.ts) :
    s.Spends t :=
  .inl ⟨hts, by simp [edgeBudget, hst, hcount]⟩

/-- A move to a state with no budget that keeps the timestamp. -/
theorem State.Spends.of_ne {s t : State} (hst : t.state ≠ .awaitingStart ∧ t.state ≠ .startReceived ∧ t.state ≠ .receiving)
    (hts : t.ts = s.ts) : s.Spends t :=
  .inl ⟨hts, by simp [edgeBudget_eq_zero hst]⟩

theorem State.Spends.unlessShut {s body : State} (h : s.Spends body) : s.Spends (s.unlessShut body) := by
  obtain ⟨-, hs⟩ | ⟨-, hs⟩ := s.unlessShut_cases body <;> rw [hs]
  · exact .of_eq rfl rfl rfl
  · exact h

theorem State.takeEdge_spends {s : State} (l : Level) (hcount : s.bitcount.toNat ≤ 32) : s.Spends (s.takeEdge l) := by
  obtain h | h := s.takeEdge_eq_self_or_lt l hcount
  · rw [h]; exact .of_eq rfl rfl rfl
  · exact .inr h

theorem State.tickMove_spends (s : State) : s.Spends s.tickMove := by
  have hst := s.tickMove_state
  rw [s.tickMove_frame]
  generalize s.tickMove.state = next at *
  obtain rfl | rfl | rfl := hst
  · exact .of_eq rfl rfl rfl
  · exact .of_ne (by simp) rfl
  · exact .of_ne (by simp) rfl

theorem State.waitStep_spends (s : State) : s.Spends s.waitStep := by
  rw [s.waitStep_eq]
  split
  · exact s.tickMove_spends
  · rw [s.tickMove.returnIfReady_frame]
    exact s.tickMove_spends

theorem State.finishTick_spends (s : State) : s.Spends s.finishTick := by
  cases hsnap : s.tickSnap with
  | none => rw [State.finishTick_of_none hsnap]; exact .of_eq rfl rfl rfl
  | some snap => exact State.tickMove_of_some hsnap ▸ s.tickMove_spends

/-- Every instruction spends, but for the TRANSMIT that ends a transmission. -/
theorem exec_spends {i : Instr} {s t : State} (hadmits : s.Admits i) (hcount : s.bitcount.toNat ≤ 32)
    (h : exec i s = .next t) :
    s.Spends t ∨ ((∃ f, i = .transmit f) ∧ s.port = .tx ∧ 68 ≤ s.txH.toNat ∧ t.state = .awaitingStart) := by
  cases i with
  | tempToF88 v =>
    simp only [exec, execTempToF88] at h
    split at h <;> cases h <;> exact .inl (.of_eq rfl rfl rfl)
  | start =>
    cases h
    refine .inl (.unlessShut ?_)
    split <;> exact .of_eq rfl rfl rfl
  | send f | sendAndWait f =>
    cases h
    refine .inl (.unlessShut ?_)
    split
    · exact .of_ne (by simp) rfl
    · exact .of_eq rfl rfl rfl
  | stop | readStatus => cases h; exact .inl (.unlessShut (.of_eq rfl rfl rfl))
  | tick =>
    obtain ⟨-, hsnap⟩ := s.busy_eq_false_iff.mp hadmits
    cases h
    exact .inl (State.tickMove_of_none hsnap ▸ s.tickMove_spends)
  | transmit f =>
    obtain hlt | hle := Nat.lt_or_ge s.txH.toNat 68
    · rw [exec_transmit_of_lt f hlt] at h
      cases h
      exact .inl (.of_eq rfl rfl rfl)
    · rw [exec_transmit_of_le f hle, s.finishTransmit_frame] at h
      cases h
      exact .inr ⟨⟨f, rfl⟩, hadmits, hle, rfl⟩
  | edge l => cases h; exact .inl (State.takeEdge_spends l hcount)
  | _ => cases h; exact .inl (.of_eq rfl rfl rfl)

/-- The command port carries no TRANSMIT (R92). -/
theorem decodeCommand_ne_transmit (w : CommandWord) (v : Value) (f : Frame) : decodeCommand w v ≠ .transmit f := by
  unfold decodeCommand
  split <;> simp

/-- A frame on the line is no TRANSMIT (R82). -/
theorem decodeFrame_ne_transmit (g f : Frame) : decodeFrame g ≠ .transmit f := by
  unfold decodeFrame
  split <;> simp

/-- What an input asks for: TRANSMIT is asked for by the polling agent's move alone, and a completed move spends unless it is a
reset. -/
def Fetched.SpendsOn (s : State) (input : Input) : Fetched → Prop
  | .run i _ => (∃ f, i = .transmit f) → input = .resume
  | .moved t => s.Spends t ∨ (input = .reset ∧ edgeBudget t = 0)
  | .stuck _ => True

theorem runAt_spendsOn {i : Instr} (n : Nat) (s : State) (input : Input) (hi : ∀ f, i ≠ .transmit f) :
    (runAt i n s).SpendsOn s input := by
  unfold runAt
  split
  · exact .inl (.of_eq rfl rfl rfl)
  · exact fun ⟨f, hf⟩ => absurd hf (hi f)

theorem resumeAt_spendsOn (n : Nat) (s : State) : (resumeAt n s).SpendsOn s .resume := by
  unfold resumeAt
  split
  · exact .inl (.of_eq rfl rfl rfl)
  split
  · exact .inl (.of_eq rfl rfl rfl)
  cases s.port with
  | tx => exact fun _ => rfl
  | wake => exact .inl (.of_ne (by simp) rfl)
  | wait => exact .inl (s.sample n).waitStep_spends
  | free => exact .inl (s.sample n).finishTick_spends

theorem fetchEvent_spendsOn (e : Event) (s : State) : (fetchEvent e s).SpendsOn s e.input := by
  obtain ⟨time, input⟩ := e
  cases input with
  | command w v =>
    cases hbusy : s.busy with
    | true => rw [fetchEvent_command_of_busy time w v hbusy]; trivial
    | false =>
      rw [fetchEvent_command_of_free time w v hbusy]
      exact runAt_spendsOn _ s _ (decodeCommand_ne_transmit w v)
  | edge w =>
    by_cases hop : opField w = 0b11001#5
    · rw [fetchEvent_edge_of_decode s time (if_pos hop)]
      exact runAt_spendsOn _ s _ (by simp)
    · rw [fetchEvent_edge_of_ne s time hop]; trivial
  | resume => exact resumeAt_spendsOn _ s
  | frame f => exact runAt_spendsOn _ s _ (decodeFrame_ne_transmit f)
  | reset => exact .inr ⟨rfl, rfl⟩

/-- Every step spends, but for the one that ends a transmission, which the polling agent's move asks for, and a reset. -/
theorem step_spends {s t : State} (hcount : s.bitcount.toNat ≤ 32) (h : step s = .next t) :
    s.Spends t ∨
    (s.port = .tx ∧ 68 ≤ s.txH.toNat ∧ t.state = .awaitingStart ∧
      ∃ time rest, s.inputs = { time := time, input := .resume } :: rest) ∨
    (edgeBudget t = 0 ∧ ∃ time rest, s.inputs = { time := time, input := .reset } :: rest) := by
  cases hin : s.inputs with
  | nil =>
    cases (step_of_moved (fetch_nil hin)).symm.trans h
    exact .inl (.of_eq rfl rfl rfl)
  | cons e rest =>
    obtain ⟨time, input⟩ := e
    have hasked := fetchEvent_spendsOn ⟨time, input⟩ { s with inputs := rest }
    have hmoves := fetchEvent_moves ⟨time, input⟩ { s with inputs := rest }
    rw [← fetch_cons hin] at hasked hmoves
    obtain ⟨i, u, hf, hs⟩ | ⟨u, hf, hs⟩ | ⟨f, hf, hs⟩ := step_of_fetch s <;> rw [hf] at hasked hmoves <;> rw [hs] at h
    · obtain ⟨⟨q, n, rfl, -⟩, hadmits⟩ := hmoves
      obtain hspends | ⟨htransmit, hport, hlast, hst⟩ := exec_spends hadmits hcount h
      · exact .inl hspends
      · obtain rfl : input = .resume := hasked htransmit
        exact .inr (.inl ⟨hport, hlast, hst, time, rest, rfl⟩)
    · cases h
      obtain hspends | ⟨hreset, hzero⟩ := hasked
      · exact .inl hspends
      · obtain rfl : input = .reset := hreset
        exact .inr (.inr ⟨hzero, time, rest, rfl⟩)
    · cases h

/-- Settles O32: `State.takeEdge_eq_self_or_lt` for an edge, and the three cases of `step_spends` for a step; that `port` is TX
only in SENDING is what the end of a transmission takes from the control invariant. -/
theorem edgeActivityBounded : Obligations.EdgeActivityBounded := by
  unfold Obligations.EdgeActivityBounded
  refine ⟨fun s l => ⟨edgeBudget_le s, fun hcount t ht => ?_⟩, fun s t hc hcount hstep => ?_⟩
  · cases ht
    exact State.takeEdge_eq_self_or_lt l hcount
  obtain ⟨⟨htx, -⟩, -⟩ := hc
  obtain hspends | ⟨hport, hlast, hst, hresume⟩ | ⟨hzero, time, rest, hreset⟩ := step_spends hcount hstep
  · have hle : edgeBudget t ≤ edgeBudget s := hspends.elim And.right Nat.le_of_lt
    refine ⟨fun _ => hle, fun hlt => absurd hlt (Nat.not_lt.mpr hle), fun _ hts => ?_, fun hawait hstart hrec _ _ => ?_⟩
    · exact hspends.resolve_left fun hkept => hts hkept.1
    · have hnone := edgeBudget_eq_zero ⟨hawait, hstart, hrec⟩
      exact (hspends.resolve_right (by omega)).1
  · have hsending : s.state = .sending := htx.mp hport
    exact ⟨fun hne => absurd hsending hne, fun _ => ⟨hsending, hst, hlast, hresume⟩,
      fun hrec => absurd hrec (by simp [hsending]), fun _ _ _ hne => absurd hsending hne⟩
  · refine ⟨fun _ => by omega, fun hlt => by omega, fun hrec _ => ?_, fun _ _ _ _ hne => absurd hreset (hne time rest)⟩
    have hpos := edgeBudget_pos hcount hrec
    omega

end Sys2Proof.Machine
end

section
/-!
SUPPORT. The session's commands: what each does in a state, and its refusal after STOP (spec/43_session.md R180 to R193;
spec/60_exceptions.md R222, R223, R226).
-/

namespace Sys2Proof.Machine

/-! ### Before and after STOP -/

/-- Before STOP a session command does what its body says. -/
theorem State.unlessShut_of_open {s : State} (body : State) (h : s.shut = false) : s.unlessShut body = body := by
  simp [State.unlessShut, h]

/-- After STOP a session command records its refusal and does nothing else (R182, R223). -/
theorem State.unlessShut_of_shut {s : State} (body : State) (hshut : s.shut = true) (hmark : s.mark = none) :
    s.unlessShut body = { s with mark := some .engineStopped } := by
  rw [State.unlessShut, if_pos hshut, State.refuse_of_mark_eq_none _ hmark]

/-- Settles O39: every session command is `State.unlessShut` of a body. -/
theorem engineStoppedRefusals : Obligations.EngineStoppedRefusals := by
  unfold Obligations.EngineStoppedRefusals
  intro s f hshut hmark
  have refused (body : State) :
      (.next (s.unlessShut body) : Host.Outcome State Fault Refusal) = .next { s with mark := some .engineStopped } :=
    congrArg _ (State.unlessShut_of_shut body hshut hmark)
  exact ⟨refused _, refused _, refused _, refused _, refused _, refused _⟩

/-! ### The lifecycle and READ_STATUS -/

/-- Settles O33: the two branches of START's body, and the refusal that stands before it. -/
theorem startBegins : Obligations.StartBegins := by
  unfold Obligations.StartBegins
  refine ⟨fun w v hop => by simp [decode, decodeCommand, hop], fun s => ⟨fun hshut hst => ?_, fun hshut hmark => ?_,
    fun hshut hst hmark => ?_⟩⟩
  · rw [exec, execStart, State.unlessShut_of_open _ hshut, if_pos hst]
    rfl
  · exact (engineStoppedRefusals s 0 hshut hmark).left
  · rw [exec, execStart, State.unlessShut_of_open _ hshut, if_neg hst, State.refuse_of_mark_eq_none _ hmark]

/-- Settles O35: STOP's body asks for no session state. -/
theorem stopShutsDown : Obligations.StopShutsDown := by
  unfold Obligations.StopShutsDown
  exact ⟨fun w v hop => by simp [decode, decodeCommand, hop], fun s hshut =>
    congrArg _ (State.unlessShut_of_open _ hshut)⟩

/-- Settles O46: the result's codes are those of R21 and R24. -/
theorem readStatusResult : Obligations.ReadStatusResult := by
  unfold Obligations.ReadStatusResult
  refine ⟨fun w v hop => by simp [decode, decodeCommand, hop], fun s => ⟨fun hshut hmark => ?_, fun hshut => ?_⟩⟩
  · obtain ⟨-, -, -, -, -, hstatus⟩ := engineStoppedRefusals s 0 hshut hmark
    exact hstatus
  · rw [exec, execReadStatus, State.unlessShut_of_open _ hshut, State.pushResult]
    cases s.state <;> cases s.outcome <;> rfl

/-! ### Sending -/

/-- Settles O36: the two branches of SEND's body, and the refusal that stands before it. -/
theorem sendAcceptance : Obligations.SendAcceptance := by
  unfold Obligations.SendAcceptance
  refine ⟨fun w v hop => by simp [decode, decodeCommand, hop, frameField], fun f s => ⟨fun hshut hst => ?_,
    fun hshut hst => ?_, fun hshut hmark => ?_⟩⟩
  · rw [exec, execSend, State.unlessShut_of_open _ hshut, if_pos hst]
    rfl
  · rw [exec, execSend, State.unlessShut_of_open _ hshut, if_neg hst]
    rfl
  · obtain ⟨-, -, hsend, -⟩ := engineStoppedRefusals s f hshut hmark
    exact hsend

/-- Settles O37: the two branches of SEND_AND_WAIT's body. -/
theorem sendAndWaitAcceptance : Obligations.SendAndWaitAcceptance := by
  unfold Obligations.SendAndWaitAcceptance
  refine ⟨fun w v hop => by simp [decode, decodeCommand, hop, frameField], fun f s hshut => ⟨fun hst => ?_,
    fun hst => ?_⟩⟩
  · rw [exec, execSendAndWait, State.unlessShut_of_open _ hshut, if_pos hst]
    rfl
  · rw [exec, execSendAndWait, State.unlessShut_of_open _ hshut, if_neg hst]
    rfl

end Sys2Proof.Machine
end

section
/-!
SUPPORT. TICK: each branch of its policy, whole or from the snapshot of a split TICK, and SEND_AND_WAIT's loop
(spec/43_session.md R185 to R192).
-/

namespace Sys2Proof.Machine

open Sys2Proof.Stated

/-! ### The branches of the policy -/

section Policy
variable (s : State) {st : SessionState} {e : Nat}

/-- Past the deadline an open exchange is reported TIMEOUT (R187). -/
theorem State.tickPolicy_of_timeout (hu : st ≠ .uninitialized) (hr : st ≠ .ready) (hq : st ≠ .quietPeriod)
    (he : tTimeout < e) : s.tickPolicy st e = s.report .timeout .ready := by
  have hopen : st.eligible = true := by cases st <;> trivial
  rw [State.tickPolicy, if_neg (by simp [hu, hr]), if_pos ⟨hopen, he⟩]

/-- In time FRAME_INVALID is reported INVALID (R188). -/
theorem State.tickPolicy_of_frameInvalid (hst : st = .frameInvalid) (he : e ≤ tTimeout) :
    s.tickPolicy st e = s.report .invalid .quietPeriod := by
  simp [State.tickPolicy, hst, Nat.not_lt.mpr he]

/-- In time FRAME_READY is reported SUCCESS for a valid response, else INVALID (R189). -/
theorem State.tickPolicy_of_frameReady (hst : st = .frameReady) (he : e ≤ tTimeout) :
    s.tickPolicy st e =
      s.report (if validResponse s.response = true then .success else .invalid) .quietPeriod := by
  simp [State.tickPolicy, hst, Nat.not_lt.mpr he]

/-- Past its length the quiet period ends (R190). -/
theorem State.tickPolicy_of_quietEnded (hst : st = .quietPeriod) (he : tQuiet < e) :
    s.tickPolicy st e = { s with state := .ready } := by
  simp [State.tickPolicy, hst, he, SessionState.eligible]

/-- Where the policy does nothing (R191). -/
theorem State.tickPolicy_of_noAction
    (h : st = .uninitialized ∨ st = .ready ∨ (st = .quietPeriod ∧ e ≤ tQuiet) ∨
      ((st = .sending ∨ st = .awaitingStart ∨ st = .startReceived ∨ st = .receiving) ∧ e ≤ tTimeout)) :
    s.tickPolicy st e = s := by
  obtain rfl | rfl | ⟨rfl, he⟩ | ⟨rfl | rfl | rfl | rfl, he⟩ := h
  case inl | inr.inl => simp [State.tickPolicy]
  all_goals simp [State.tickPolicy, SessionState.eligible, Nat.not_lt.mpr he]

end Policy

/-! ### A whole TICK -/

/-- A TICK that is not split applies the policy to the registers (R186). -/
theorem exec_tick_of_whole {s : State} (hshut : s.shut = false) (hwhole : s.cfg.tickSplitPhase = false) :
    exec .tick s = .next (s.tickPolicy s.state (s.elapsed s.ts)) := by
  rw [exec, execTick, State.tickStep, State.unlessShut_of_open _ hshut, if_neg (by simp [hwhole])]

/-- Settles O40, by `State.tickPolicy_of_timeout`. -/
theorem tickTimeout : Obligations.TickTimeout := by
  unfold Obligations.TickTimeout
  intro s hshut hwhole hu hr hq he
  rw [exec_tick_of_whole hshut hwhole, s.tickPolicy_of_timeout hu hr hq he]
  rfl

/-- Settles O41, by `State.tickPolicy_of_frameInvalid`. -/
theorem tickInvalidFrame : Obligations.TickInvalidFrame := by
  unfold Obligations.TickInvalidFrame
  intro s hshut hwhole hst he
  rw [exec_tick_of_whole hshut hwhole, s.tickPolicy_of_frameInvalid hst he]
  rfl

/-- Settles O42, by `State.tickPolicy_of_frameReady`, with `validResponse_iff` for the outcome. -/
theorem tickFrameReceived : Obligations.TickFrameReceived := by
  unfold Obligations.TickFrameReceived
  intro s hshut hwhole hst he
  refine ⟨if validResponse s.response = true then .success else .invalid, ite_eq_or_eq _ _ _, ?_, ?_⟩
  · exact (show _ ↔ validResponse s.response = true by simp).trans (validResponse_iff s.response)
  · rw [exec_tick_of_whole hshut hwhole, s.tickPolicy_of_frameReady hst he]
    rfl

/-- Settles O43: past 100,000 µs by `State.tickPolicy_of_quietEnded`, else by `State.tickPolicy_of_noAction`. -/
theorem tickQuietEnds : Obligations.TickQuietEnds := by
  unfold Obligations.TickQuietEnds
  intro s hshut hwhole hst
  rw [exec_tick_of_whole hshut hwhole]
  refine ⟨fun he => congrArg _ (s.tickPolicy_of_quietEnded hst he), fun he => congrArg _ ?_⟩
  exact s.tickPolicy_of_noAction (.inr (.inr (.inl ⟨hst, he⟩)))

/-- Settles O44, by `State.tickPolicy_of_noAction`. -/
theorem tickNoAction : Obligations.TickNoAction := by
  unfold Obligations.TickNoAction
  intro s hshut hwhole h
  rw [exec_tick_of_whole hshut hwhole, s.tickPolicy_of_noAction]
  obtain h | h | h | h := h
  · exact .inr (.inl h)
  · exact .inl h
  · exact .inr (.inr (.inr h))
  · exact .inr (.inr (.inl h))

/-! ### A split TICK -/

/-- With the port FREE and the hold over, the polling agent takes the second step of a split TICK, if one is under way
(R192). -/
theorem resumeAt_of_portFree {n : Nat} {s : State} (hport : s.port = .free) (hnow : s.now ≤ n) (hhold : s.holdUntil ≤ n) :
    resumeAt n s = .moved (s.sample n).finishTick := by
  simp [resumeAt, Nat.not_lt.mpr hnow, Nat.not_lt.mpr hhold, hport]

/-- With the port WAIT and the hold over, the polling agent makes a pass of SEND_AND_WAIT's loop (R185). -/
theorem resumeAt_of_wait {n : Nat} {s : State} (hport : s.port = .wait) (hnow : s.now ≤ n) (hhold : s.holdUntil ≤ n) :
    resumeAt n s = .moved (s.sample n).waitStep := by
  simp [resumeAt, Nat.not_lt.mpr hnow, Nat.not_lt.mpr hhold, hport]

section Resumed
variable {s : State} {rest : List Event} {time : Nat} (hin : s.inputs = { time := time, input := .resume } :: rest)
  (hnow : s.now ≤ time) (hhold : s.holdUntil ≤ time) (htime : time < 2 ^ s.cfg.clockWidth)
include hin hnow hhold htime

/-- With the port FREE the polling agent's move is the second step of a split TICK command, if one is under way (R192). -/
theorem step_finishTick (hport : s.port = .free) :
    step s = .next ({ s with inputs := rest, now := time } : State).finishTick :=
  step_of_moved ((fetch_resume hin htime).trans (resumeAt_of_portFree hport hnow hhold))

/-- The polling agent's move in WAIT is a pass of the loop (R185). -/
theorem step_waitStep (hport : s.port = .wait) :
    step s = .next ({ s with inputs := rest, now := time } : State).waitStep :=
  step_of_moved ((fetch_resume hin htime).trans (resumeAt_of_wait hport hnow hhold))

end Resumed

/-- Settles O45: the snapshot is `State.snapshotTick`, and `step_finishTick` applies to it the branch of the policy that its
state and elapsed time choose. -/
theorem tickSplitPhases : Obligations.TickSplitPhases := by
  unfold Obligations.TickSplitPhases
  refine ⟨fun s hshut hsplit => ?_, fun s rest time snap hin hport hsnap hnow hhold htime => ?_⟩
  · rw [exec, execTick, State.tickStep, State.unlessShut_of_open _ hshut, if_pos hsplit]
    rfl
  rw [step_finishTick hin hnow hhold htime hport, State.finishTick_of_some (snap := snap) (by exact hsnap)]
  refine ⟨fun ⟨hu, hr, hq, he⟩ => ?_, fun ⟨hst, he⟩ => ?_, fun ⟨hst, he⟩ => ?_, fun ⟨hst, he⟩ => ?_, fun h => ?_⟩
  · rw [State.tickPolicy_of_timeout _ hu hr hq he]
    rfl
  · rw [State.tickPolicy_of_frameInvalid _ hst he]
    rfl
  · rw [State.tickPolicy_of_frameReady _ hst he]
    rfl
  · rw [State.tickPolicy_of_quietEnded _ hst he]
  · rw [State.tickPolicy_of_noAction _ h]

/-! ### SEND_AND_WAIT's loop -/

/-- The loop's test (R185). -/
theorem State.returnIfReady_eq (s : State) :
    s.returnIfReady = if s.state = .ready then { s with port := .free, resultLog := s.resultLog ++ [.frame s.response] }
      else { s with holdUntil := s.now } := rfl

/-- The policy of TICK does not read the port. -/
theorem State.tickPolicy_withPort (s : State) (p : Port) (st : SessionState) (e : Nat) :
    ({ s with port := p } : State).tickPolicy st e = { s.tickPolicy st e with port := p } := by
  simp only [State.tickPolicy, apply_ite (fun t : State => { t with port := p })]
  rfl

/-- The second step of a split TICK does not read the port. -/
theorem State.finishTick_withPort {s : State} {snap : TickSnapshot} (p : Port) (hsnap : s.tickSnap = some snap) :
    ({ s with port := p } : State).finishTick = { s.finishTick with port := p } := by
  rw [State.finishTick_of_some hsnap, State.finishTick_of_some (snap := snap) (by exact hsnap), s.tickPolicy_withPort]

/-- After the last step of an internal TICK comes the loop's test. -/
theorem State.waitStep_of_tickMove {s u : State} (hmove : s.tickMove = u) (hdone : u.tickSnap = none) :
    s.waitStep = u.returnIfReady := by
  rw [s.waitStep_eq, hmove, if_neg (by simp [hdone])]

/-- Where the internal TICK is split, its second step is that of a split TICK command, with the port FREE, and then comes the
loop's test. -/
theorem State.waitStep_of_some {s u : State} {snap : TickSnapshot} (hport : s.port = .wait) (hsnap : s.tickSnap = some snap)
    (hu : ({ s with port := .free } : State).finishTick = u) :
    s.waitStep = if u.state = .ready then { u with resultLog := u.resultLog ++ [.frame u.response] }
      else { u with port := .wait, holdUntil := s.now } := by
  subst hu
  have hmove : s.tickMove = s.finishTick := State.tickMove_of_some hsnap
  have hdone : s.finishTick.tickSnap = none := by rw [State.finishTick_of_some hsnap]
  have hkept : s.finishTick.port = .wait ∧ s.finishTick.now = s.now := by
    rw [← hmove, s.tickMove_frame]
    exact ⟨hport, rfl⟩
  obtain ⟨hwait, hnow⟩ := hkept
  rw [State.waitStep_of_tickMove hmove hdone, State.returnIfReady_eq, State.finishTick_withPort .free hsnap, ← hwait, ← hnow]

/-- Settles O38: an internal TICK's step is TICK's own, `State.waitStep_of_tickMove` gives the test after a whole one, and
`State.waitStep_of_some` after the second step of a split one. -/
theorem sendAndWaitLoop : Obligations.SendAndWaitLoop := by
  unfold Obligations.SendAndWaitLoop
  refine ⟨fun s rest time u hin hport hsnap hnow hhold htime htick => ?_,
    fun s rest time snap hin hport hsnap hnow hhold htime => ?_⟩
  · rw [step_waitStep hin hnow hhold htime hport]
    have hmove : ({ s with inputs := rest, now := time } : State).tickMove = u := by
      rw [State.tickMove_of_none (by exact hsnap)]
      exact Host.Outcome.next.inj htick
    refine ⟨fun hnone => congrArg _ (State.waitStep_of_tickMove hmove hnone), fun hsome => congrArg _ ?_⟩
    rw [State.waitStep_eq, hmove, if_pos (Option.isSome_iff_ne_none.mpr hsome)]
  · refine ⟨_, step_finishTick (s := { s with port := .free }) hin hnow hhold htime rfl, ?_⟩
    rw [step_waitStep hin hnow hhold htime hport]
    exact congrArg _ (State.waitStep_of_some hport hsnap rfl)

end Sys2Proof.Machine
end

section
/-!
SUPPORT. The report of an exchange: a step that emits a DONE closes an open exchange (spec/43_session.md R195).
-/

namespace Sys2Proof.Machine

/-- From `s` to `t` an open exchange is closed by one DONE, with `response` and the outcome written (R195, R227). -/
def State.Reports (s t : State) : Prop :=
  s.state.eligible = true ∧ (t.state = .ready ∨ t.state = .quietPeriod) ∧
  t.doneLog = s.doneLog ++ [{ frame := s.response, outcome := t.outcome, time := t.now }] ∧ t.outcome ≠ .none

/-- The policy of TICK emits a DONE only where it closes an exchange that the state it reads shows open. -/
theorem State.tickPolicy_reports {s : State} {st : SessionState} {e : Nat}
    (hopen : st.eligible = true → s.state.eligible = true) (hne : (s.tickPolicy st e).doneLog ≠ s.doneLog) :
    s.Reports (s.tickPolicy st e) := by
  obtain ⟨-, h⟩ | ⟨hst, -, h⟩ | ⟨hst, -, h⟩ | ⟨hst, -, h⟩ | ⟨-, -, h⟩ := s.tickPolicy_cases st e <;> rw [h] at hne ⊢
  · exact absurd rfl hne
  · exact ⟨hopen hst, .inl rfl, rfl, by simp⟩
  · exact ⟨hopen (by rw [hst]; rfl), .inr rfl, rfl, by simp⟩
  · refine ⟨hopen (by rw [hst]; rfl), .inr rfl, rfl, ?_⟩
    rw [State.report_outcome]
    split <;> simp
  · exact absurd rfl hne

/-- What a TICK reads as open is open: the state itself, or a snapshot that fits it (R192). -/
theorem State.ControlInv.tickMove_reports {s : State} (h : s.ControlInv) (hne : s.tickMove.doneLog ≠ s.doneLog) :
    s.Reports s.tickMove := by
  obtain ⟨-, ht⟩ | ⟨-, ht⟩ | ⟨st, e, hst, ht⟩ := s.tickMove_cases <;> rw [ht] at hne ⊢
  · exact absurd rfl hne
  · exact absurd rfl hne
  have hopen : st.eligible = true → s.state.eligible = true := by
    obtain ⟨-, rfl⟩ | hsnap := hst
    · exact id
    · obtain ⟨-, -, -, -, hmatches⟩ := h
      obtain ⟨-, heq, -⟩ := hmatches _ hsnap
      exact heq ▸ id
  exact State.tickPolicy_reports hopen hne

/-- A pass of SEND_AND_WAIT's loop is the next step of a TICK but for the port, the result output and the hold. -/
theorem State.waitStep_eq_tickMove (s : State) :
    s.waitStep = { s.tickMove with port := s.waitStep.port, resultLog := s.waitStep.resultLog,
                                   holdUntil := s.waitStep.holdUntil } := by
  rw [s.waitStep_eq]
  split
  · rfl
  · exact s.tickMove.returnIfReady_frame

/-- A move that emits a DONE reports an open exchange. -/
theorem State.Moves.reports {s t : State} (h : s.ControlInv) (hm : s.Moves t) (hne : t.doneLog ≠ s.doneLog) :
    s.Reports t := by
  cases hm with
  | tickMove => exact h.tickMove_reports hne
  | waitStep =>
    rw [s.waitStep_eq_tickMove] at hne ⊢
    exact h.tickMove_reports hne
  | takeEdge l =>
    rw [s.takeEdge_frame l] at hne
    exact absurd rfl hne
  | finishTransmit =>
    rw [s.finishTransmit_frame] at hne
    exact absurd rfl hne
  | _ => exact absurd rfl hne

/-- Settles O49, by `State.Moves.reports` for the move of the step. -/
theorem oneReportPerExchange : Obligations.OneReportPerExchange := by
  unfold Obligations.OneReportPerExchange
  intro s t hc hstep hne
  obtain ⟨u, taken, moves⟩ := step_moves hstep
  have hcu := hc.eventTaken taken
  obtain ⟨q, n, rfl, -⟩ := taken
  obtain ⟨hopen, hclosed, hdone, hout⟩ := moves.reports hcu hne
  refine ⟨hopen, hclosed, ?_, hdone, hout⟩
  obtain hr | hq := hclosed
  · rw [hr]; rfl
  · rw [hq]; rfl

end Sys2Proof.Machine
end

section
/-!
SUPPORT. Which input brings about each change of the session state, and which of them opens an exchange (spec/43_session.md R195).
-/

namespace Sys2Proof.Machine

/-! ### The transitions -/

/-- What can change the session state once the event is taken and the clock sampled, with the input that does it. -/
inductive State.Transition (s : State) : Input → State → Prop
  /-- a reset of the host (R250) -/
  | reset : s.Transition .reset s.hostReset
  /-- START's completion (R181) -/
  | finishStart : s.port = .wake → s.Transition .resume s.finishStart
  /-- an accepted SEND or SEND_AND_WAIT (R183, R185) -/
  | beginExchange (w : CommandWord) (v : Value) (f : Frame) (wait : Bool) :
      opField w = 0b10010#5 ∨ opField w = 0b10011#5 → s.shut = false → s.state = .ready →
      s.Transition (.command w v) (s.beginExchange f wait)
  /-- the end of a transmission (R143, R184) -/
  | finishTransmit : s.port = .tx → 68 ≤ s.txH.toNat → s.Transition .resume s.finishTransmit
  /-- an edge (R150) -/
  | takeEdge (w : CommandWord) : s.Transition (.edge w) (s.takeEdge (Level.ofBit (levelField w)))
  /-- the first step of a TICK command (R186) -/
  | tickCommand (w : CommandWord) (v : Value) : opField w = 0b10100#5 → s.Transition (.command w v) s.tickMove
  /-- the second step of a split TICK command (R192) -/
  | finishTick : s.tickSnap ≠ none → s.Transition .resume s.tickMove
  /-- a pass of SEND_AND_WAIT's loop (R185) -/
  | waitStep : s.port = .wait → s.Transition .resume s.waitStep

/-- The inputs that can ask for an instruction, for the five that can change the session state (R91). -/
def Input.Asks (input : Input) : Instr → Prop
  | .send _ => ∃ w v, input = .command w v ∧ opField w = 0b10010#5
  | .sendAndWait _ => ∃ w v, input = .command w v ∧ opField w = 0b10011#5
  | .tick => ∃ w v, input = .command w v ∧ opField w = 0b10100#5
  | .transmit _ => input = .resume
  | .edge l => ∃ w, input = .edge w ∧ l = Level.ofBit (levelField w)
  | _ => True

theorem Input.asks_decodeCommand (w : CommandWord) (v : Value) : (Input.command w v).Asks (decodeCommand w v) := by
  unfold decodeCommand
  split
  case h_19 hop | h_20 hop | h_21 hop => exact ⟨w, v, rfl, hop⟩ -- the arms of SEND, SEND_AND_WAIT and TICK
  all_goals trivial

theorem Input.asks_decodeFrame (f : Frame) : (Input.frame f).Asks (decodeFrame f) := by
  unfold decodeFrame
  split <;> trivial

theorem State.unlessShut_state {s body : State} (h : body.state = s.state) : (s.unlessShut body).state = s.state := by
  obtain ⟨-, hs⟩ | ⟨-, hs⟩ := s.unlessShut_cases body <;> rw [hs]
  · rfl
  · exact h

/-- SEND and SEND_AND_WAIT leave the session state, or open an exchange in READY. -/
theorem State.exchange_transition {s : State} {w : CommandWord} (v : Value) (f : Frame) (wait : Bool) (r : CommandResult)
    (hop : opField w = 0b10010#5 ∨ opField w = 0b10011#5) :
    let t := s.unlessShut (if s.state = .ready then s.beginExchange f wait else s.pushResult r)
    t.state = s.state ∨ s.Transition (.command w v) t := by
  obtain ⟨-, hs⟩ | ⟨hshut, hs⟩ := s.unlessShut_cases
    (if s.state = .ready then s.beginExchange f wait else s.pushResult r) <;> rw [hs]
  · exact .inl rfl
  split
  next hst => exact .inr (.beginExchange w v f wait hop hshut hst)
  next => exact .inl rfl

/-- An instruction leaves the session state, or makes the transition of the input that asks for it. -/
theorem exec_transition {input : Input} {i : Instr} {s t : State} (hadmits : s.Admits i) (hasks : input.Asks i)
    (h : exec i s = .next t) : t.state = s.state ∨ s.Transition input t := by
  cases i with
  | tempToF88 v =>
    simp only [exec, execTempToF88] at h
    split at h <;> cases h <;> exact .inl rfl
  | start =>
    cases h
    refine .inl (State.unlessShut_state ?_)
    split <;> rfl
  | stop | readStatus => cases h; exact .inl (State.unlessShut_state rfl)
  | send f =>
    cases h
    obtain ⟨w, v, rfl, hop⟩ := hasks
    exact State.exchange_transition v f false _ (.inl hop)
  | sendAndWait f =>
    cases h
    obtain ⟨w, v, rfl, hop⟩ := hasks
    exact State.exchange_transition v f true _ (.inr hop)
  | tick =>
    obtain ⟨-, hsnap⟩ := s.busy_eq_false_iff.mp hadmits
    obtain ⟨w, v, rfl, hop⟩ := hasks
    cases h
    exact .inr (State.tickMove_of_none hsnap ▸ .tickCommand w v hop)
  | transmit f =>
    cases hasks
    obtain hlt | hle := Nat.lt_or_ge s.txH.toNat 68
    · rw [exec_transmit_of_lt f hlt] at h
      cases h
      exact .inl rfl
    · rw [exec_transmit_of_le f hle] at h
      cases h
      exact .inr (.finishTransmit hadmits hle)
  | edge l =>
    obtain ⟨w, rfl, rfl⟩ := hasks
    cases h
    exact .inr (.takeEdge w)
  | _ => cases h; exact .inl rfl

/-- An event asks for an instruction of its input, or leaves the session state, or makes a transition of its input. -/
def Fetched.TransitionsOn (s : State) (input : Input) : Fetched → Prop
  | .run i _ => input.Asks i
  | .moved t => ∃ u, s.EventTaken u ∧ (t.state = u.state ∨ u.Transition input t)
  | .stuck _ => True

theorem runAt_transitionsOn {input : Input} {i : Instr} (n : Nat) (s : State) (hasks : input.Asks i) :
    (runAt i n s).TransitionsOn s input := by
  unfold runAt
  split
  · exact ⟨s, .unsampled s, .inl rfl⟩
  · exact hasks

theorem State.finishTick_transition (s : State) : s.finishTick.state = s.state ∨ s.Transition .resume s.finishTick := by
  cases hsnap : s.tickSnap with
  | none => rw [State.finishTick_of_none hsnap]; exact .inl rfl
  | some snap => exact .inr (State.tickMove_of_some hsnap ▸ .finishTick (by simp [hsnap]))

theorem resumeAt_transitionsOn (s : State) (time : Nat) :
    (resumeAt (s.clockInput time) s).TransitionsOn s .resume := by
  unfold resumeAt
  split
  · exact ⟨s, .unsampled s, .inl rfl⟩
  next hback =>
    have taken := State.EventTaken.sample hback
    split
    · exact ⟨_, taken, .inl rfl⟩
    cases hport : s.port with
    | tx => exact rfl
    | wake => exact ⟨_, taken, .inr (.finishStart hport)⟩
    | wait => exact ⟨_, taken, .inr (.waitStep hport)⟩
    | free => exact ⟨_, taken, State.finishTick_transition _⟩

theorem fetchEvent_transitionsOn (e : Event) (s : State) : (fetchEvent e s).TransitionsOn s e.input := by
  obtain ⟨time, input⟩ := e
  cases input with
  | command w v =>
    cases hbusy : s.busy with
    | true => rw [fetchEvent_command_of_busy time w v hbusy]; trivial
    | false =>
      rw [fetchEvent_command_of_free time w v hbusy]
      exact runAt_transitionsOn _ s (Input.asks_decodeCommand w v)
  | edge w =>
    by_cases hop : opField w = 0b11001#5
    · rw [fetchEvent_edge_of_decode s time (if_pos hop)]
      exact runAt_transitionsOn _ s ⟨w, rfl, rfl⟩
    · rw [fetchEvent_edge_of_ne s time hop]; trivial
  | resume => exact resumeAt_transitionsOn s time
  | frame f => exact runAt_transitionsOn _ s (Input.asks_decodeFrame f)
  | reset => exact ⟨s, .unsampled s, .inr .reset⟩

/-- A step that changes the session state makes a transition of its input. -/
theorem step_transition {s t : State} (h : step s = .next t) (hne : t.state ≠ s.state) :
    ∃ e rest u, s.inputs = e :: rest ∧ s.EventTaken u ∧ u.Transition e.input t := by
  cases hin : s.inputs with
  | nil =>
    cases (step_of_moved (fetch_nil hin)).symm.trans h
    exact absurd rfl hne
  | cons e rest =>
    refine ⟨e, rest, ?_⟩
    have hmoves := fetchEvent_moves e { s with inputs := rest }
    have hasked := fetchEvent_transitionsOn e { s with inputs := rest }
    rw [← fetch_cons hin] at hmoves hasked
    have made {u : State} (taken : s.EventTaken u) (hu : t.state = u.state ∨ u.Transition e.input t) :
        ∃ u, e :: rest = e :: rest ∧ s.EventTaken u ∧ u.Transition e.input t := by
      refine ⟨u, rfl, taken, hu.resolve_left fun heq => hne ?_⟩
      obtain ⟨q, n, rfl, -⟩ := taken
      exact heq
    obtain ⟨i, u, hf, hs⟩ | ⟨u, hf, hs⟩ | ⟨f, hf, hs⟩ := step_of_fetch s <;> rw [hf] at hmoves hasked <;> rw [hs] at h
    · obtain ⟨taken, hadmits⟩ := hmoves
      exact made taken (exec_transition hadmits hasked h)
    · cases h
      obtain ⟨u, taken, hu⟩ := hasked
      exact made taken hu
    · cases h

/-! ### Opening an exchange -/

theorem SessionState.not_eligible {st : SessionState} (h : st = .uninitialized ∨ st = .ready ∨ st = .quietPeriod) :
    st.eligible = false := by
  obtain rfl | rfl | rfl := h <;> rfl

/-- No step of a TICK opens an exchange. -/
theorem State.tickMove_not_eligible {s : State} (h : s.state.eligible = false) : s.tickMove.state.eligible = false := by
  obtain hst | hst := s.tickMove_state
  · rwa [hst]
  · exact SessionState.not_eligible (.inr hst)

/-- Only the acceptance of a SEND or SEND_AND_WAIT opens an exchange. -/
theorem State.Transition.eq_beginExchange {s t : State} {input : Input} (hc : s.ControlInv) (h : s.Transition input t)
    (hclosed : s.state.eligible = false) (hopen : t.state.eligible = true) :
    s.state = .ready ∧ s.shut = false ∧ (∃ f wait, t = s.beginExchange f wait) ∧
      ∃ w v, input = .command w v ∧ (opField w = 0b10010#5 ∨ opField w = 0b10011#5) := by
  cases h with
  | beginExchange w v f wait hop hshut hst => exact ⟨hst, hshut, ⟨f, wait, rfl⟩, w, v, rfl, hop⟩
  | reset | finishStart => cases hopen
  | finishTransmit hport =>
    obtain ⟨⟨htx, -⟩, -⟩ := hc
    rw [htx.mp hport] at hclosed
    cases hclosed
  | takeEdge w =>
    obtain hst | ⟨hopened, -⟩ := s.takeEdge_state (Level.ofBit (levelField w))
    · simp [hst, hclosed] at hopen
    · simp [hclosed] at hopened
  | tickCommand | finishTick => simp [State.tickMove_not_eligible hclosed] at hopen
  | waitStep =>
    rw [s.waitStep_eq_tickMove] at hopen
    simp [State.tickMove_not_eligible hclosed] at hopen

/-- Settles O50, by `State.Transition.eq_beginExchange` for the transition of the step. -/
theorem onlySendOpensExchange : Obligations.OnlySendOpensExchange := by
  unfold Obligations.OnlySendOpensExchange
  intro s t hc hstep hclosed hopen
  have hne : t.state ≠ s.state := fun heq => by simp [heq, hclosed] at hopen
  obtain ⟨⟨time, input⟩, rest, u, hin, taken, transition⟩ := step_transition hstep hne
  have hcu := hc.eventTaken taken
  obtain ⟨q, n, rfl, -⟩ := taken
  obtain ⟨hst, hshut, ⟨f, wait, rfl⟩, w, v, rfl, hop⟩ := transition.eq_beginExchange hcu hclosed hopen
  exact ⟨hst, hshut, rfl, rfl, rfl, time, w, v, rest, hin, hop⟩

end Sys2Proof.Machine
end

section
/-!
SUPPORT. The transition table: each transition that changes the session state is one of its rows (spec/43_session.md R196).
-/

namespace Sys2Proof.Machine

open Sys2Proof.Stated

/-- The level of an edge word is ACTIVE exactly when its bit 0 is set (R91). -/
theorem ofBit_levelField_eq_active_iff (w : CommandWord) :
    Level.ofBit (levelField w) = .active ↔ w.getLsbD 0 = true := by
  have hbit : levelField w = BitVec.ofBool (w.getLsbD 0) := by
    apply BitVec.eq_of_getLsbD_eq
    intro j hj
    interval_cases j
    simp [levelField]
  rw [hbit]
  cases w.getLsbD 0 <;> decide

theorem ofBit_levelField_eq_idle_iff (w : CommandWord) :
    Level.ofBit (levelField w) = .idle ↔ w.getLsbD 0 = false := by
  rw [← Bool.not_eq_true, ← ofBit_levelField_eq_active_iff]
  cases Level.ofBit (levelField w) <;> simp

section Table
variable {s : State} (hcheck : s.cfg.stopBitCheck = false) (hwhole : s.cfg.tickSplitPhase = false)
  (hsnap : s.tickSnap = none)

include hcheck in
/-- An edge that changes the session state is a row of the table. -/
theorem State.takeEdge_tableRow (w : CommandWord) (hne : (s.takeEdge (Level.ofBit (levelField w))).state ≠ s.state) :
    tableRow s (s.takeEdge (Level.ofBit (levelField w))) (.edge w) (s.elapsed s.ts) := by
  refine .inr (.inr (.inr (.inl ⟨w, rfl, ?_⟩)))
  have hactive := ofBit_levelField_eq_active_iff w
  have hidle := ofBit_levelField_eq_idle_iff w
  generalize Level.ofBit (levelField w) = l at *
  rcases s.takeEdge_cases l with ⟨-, h⟩ | ⟨-, hst, hl, h⟩ | ⟨-, hst, hl, h⟩ | ⟨-, hst, ⟨he, hl⟩, h⟩ | ⟨-, hst, hbad, h⟩ |
    ⟨-, -, -, h⟩ | ⟨-, -, ⟨-, -, hchecked, -⟩, -⟩ | ⟨-, hst, ⟨he, hcount, -⟩, h⟩
  case inr.inr.inr.inr.inr.inr.inl => simp [hcheck] at hchecked
  all_goals rw [h] at hne ⊢
  · exact absurd rfl hne
  · exact ⟨rfl, rfl, .inl ⟨hst, rfl, hactive.mp hl⟩⟩
  · exact ⟨rfl, rfl, .inr (.inl ⟨hst, rfl, hidle.mp hl⟩)⟩
  · exact ⟨rfl, rfl, .inr (.inr (.inl ⟨hst, rfl, he, hidle.mp hl, rfl⟩))⟩
  · refine ⟨rfl, rfl, .inr (.inr (.inr (.inl ⟨hst, rfl, fun ⟨he, hbit⟩ => ?_⟩)))⟩
    obtain hle | ha := hbad
    · exact Nat.not_lt.mpr hle he
    · cases ha.symm.trans (hidle.mpr hbit)
  · exact absurd rfl hne
  · exact ⟨rfl, rfl, .inr (.inr (.inr (.inr ⟨hst, rfl, he, Nat.not_lt.mp hcount⟩)))⟩

include hwhole hsnap in
/-- A TICK that changes the session state is a row of the table. -/
theorem State.tickMove_tableRow {i : Input} (hi : isTick s i) (hne : s.tickMove.state ≠ s.state) :
    tableRow s s.tickMove i (s.elapsed s.ts) := by
  refine .inr (.inr (.inr (.inr ⟨hi, ?_⟩)))
  rw [State.tickMove_of_none hsnap, State.tickStep, if_neg (by simp [hwhole])] at hne ⊢
  obtain ⟨-, hs⟩ | ⟨-, hs⟩ := s.unlessShut_cases (s.tickPolicy s.state (s.elapsed s.ts)) <;> rw [hs] at hne ⊢
  · exact absurd rfl hne
  obtain ⟨-, h⟩ | ⟨hst, he, h⟩ | ⟨hst, he, h⟩ | ⟨hst, he, h⟩ | ⟨hst, he, h⟩ :=
    s.tickPolicy_cases s.state (s.elapsed s.ts) <;> rw [h] at hne ⊢
  · exact absurd rfl hne
  · exact .inl ⟨hst, rfl, he, rfl⟩
  · exact .inr (.inl ⟨hst, rfl, he, rfl⟩)
  · exact .inr (.inr (.inl ⟨hst, rfl, he, rfl⟩))
  · exact .inr (.inr (.inr ⟨hst, rfl, he, rfl⟩))

include hcheck hwhole hsnap in
/-- Every transition but a reset that changes the session state is a row of the table. -/
theorem State.Transition.tableRow {t : State} {i : Input} (hc : s.ControlInv) (h : s.Transition i t) (hi : i ≠ .reset)
    (hne : t.state ≠ s.state) : tableRow s t i (s.elapsed s.ts) := by
  cases h with
  | reset => exact absurd rfl hi
  | finishStart hport =>
    obtain ⟨⟨-, hwake, -⟩, -⟩ := hc
    exact .inl ⟨hwake hport, rfl, rfl, hport, rfl⟩
  | beginExchange w v f wait hop _ hst => exact .inr (.inl ⟨hst, rfl, rfl, w, v, rfl, hop⟩)
  | finishTransmit hport hlast =>
    obtain ⟨⟨htx, -⟩, -⟩ := hc
    rw [s.finishTransmit_frame]
    exact .inr (.inr (.inl ⟨htx.mp hport, rfl, rfl, hlast, rfl⟩))
  | takeEdge w => exact State.takeEdge_tableRow hcheck w hne
  | tickCommand w v hop => exact State.tickMove_tableRow hwhole hsnap (.inl ⟨w, v, rfl, hop⟩) hne
  | finishTick hsome => exact absurd hsnap hsome
  | waitStep hport =>
    rw [s.waitStep_eq_tickMove] at hne ⊢
    exact State.tickMove_tableRow hwhole hsnap (.inr ⟨rfl, hport⟩) hne

end Table

/-- No transition changes the clock sample. -/
theorem State.Transition.now_eq {s t : State} {i : Input} (h : s.Transition i t) : t.now = s.now := by
  cases h with
  | finishTransmit => rw [s.finishTransmit_frame]
  | takeEdge => rw [s.takeEdge_frame]
  | tickCommand | finishTick => rw [s.tickMove_frame]
  | waitStep => rw [s.waitStep_frame]
  | _ => rfl

/-- Settles O51, by `State.Transition.tableRow` for the transition of the step. -/
theorem onlyTableTransitions : Obligations.OnlyTableTransitions := by
  unfold Obligations.OnlyTableTransitions
  intro s t rest time i hc hcheck hwhole hsnap hin hi hstep hne
  obtain ⟨e, rest', u, hin', taken, transition⟩ := step_transition hstep hne
  cases hin.symm.trans hin'
  have hcu := hc.eventTaken taken
  have hnow := transition.now_eq
  obtain ⟨q, n, rfl, -⟩ := taken
  rw [hnow]
  exact State.Transition.tableRow (s := { s with inputs := q, now := n }) hcheck hwhole hsnap hcu transition hi hne

end Sys2Proof.Machine
end

section
/-!
SUPPORT. Exceptions: an instruction completes in every state, a refusal changes the mark alone, and several lines share
nothing (spec/60_exceptions.md R220, R223, R232).
-/

namespace Sys2Proof.Machine

/-! ### Every instruction completes -/

/-- Settles O12: TEMP_TO_F88 and TRANSMIT branch, and complete in each of their branches. -/
theorem nothingAborts : Obligations.NothingAborts := by
  unfold Obligations.NothingAborts
  intro i s
  cases i with
  | tempToF88 v =>
    cases h : temperatureOf v with
    | some p => exact ⟨_, exec_tempToF88_of_some s h⟩
    | none => exact ⟨_, exec_tempToF88_of_none s h⟩
  | transmit f =>
    obtain hlt | hle := Nat.lt_or_ge s.txH.toNat 68
    · exact ⟨_, exec_transmit_of_lt f hlt⟩
    · exact ⟨_, exec_transmit_of_le f hle⟩
  | _ => exact ⟨_, rfl⟩

/-! ### The mark -/

/-- From `s` to `t` the mark stays, or `t` is the refusal of `s` and differs in nothing else. -/
def State.KeepsMarkOrRefuses (s t : State) : Prop := t.mark = s.mark ∨ ∃ r : RefusalReason, t = s.refuse r

theorem State.refuse_keepsMarkOrRefuses (s : State) (r : RefusalReason) : s.KeepsMarkOrRefuses (s.refuse r) :=
  .inr ⟨r, rfl⟩

theorem State.KeepsMarkOrRefuses.unlessShut {s body : State} (h : s.KeepsMarkOrRefuses body) :
    s.KeepsMarkOrRefuses (s.unlessShut body) := by
  obtain ⟨-, hs⟩ | ⟨-, hs⟩ := s.unlessShut_cases body <;> rw [hs]
  · exact s.refuse_keepsMarkOrRefuses _
  · exact h

theorem State.tickStep_keepsMarkOrRefuses (s : State) : s.KeepsMarkOrRefuses s.tickStep := by
  refine .unlessShut ?_
  split
  · exact .inl rfl
  · rw [s.tickPolicy_frame]
    exact .inl rfl

/-- A mark that differs from the one before is the first, and nothing else differs (R223). -/
theorem State.KeepsMarkOrRefuses.first_mark {s t : State} (h : s.KeepsMarkOrRefuses t) (hne : t.mark ≠ s.mark) :
    s.mark = none ∧ ∃ r : RefusalReason, t = { s with mark := some r } := by
  obtain ⟨r, rfl⟩ := h.resolve_left hne
  cases hmark : s.mark with
  | none => exact ⟨rfl, r, State.refuse_of_mark_eq_none r hmark⟩
  | some first => exact absurd ((s.refuse_mark_kept r first hmark).trans hmark.symm) hne

/-- An instruction keeps the mark, or is a refusal and nothing else. -/
theorem exec_keepsMarkOrRefuses {i : Instr} {s t : State} (h : exec i s = .next t) : s.KeepsMarkOrRefuses t := by
  cases i with
  | tempToF88 v =>
    cases hv : temperatureOf v with
    | some p => cases (exec_tempToF88_of_some s hv).symm.trans h; exact .inl rfl
    | none => cases (exec_tempToF88_of_none s hv).symm.trans h; exact s.refuse_keepsMarkOrRefuses _
  | start =>
    cases h
    refine .unlessShut ?_
    split
    · exact .inl rfl
    · exact s.refuse_keepsMarkOrRefuses _
  | send f | sendAndWait f =>
    cases h
    refine .unlessShut ?_
    split <;> exact .inl rfl
  | stop | readStatus => cases h; exact .unlessShut (.inl rfl)
  | tick => cases h; exact s.tickStep_keepsMarkOrRefuses
  | transmit f =>
    obtain hlt | hle := Nat.lt_or_ge s.txH.toNat 68
    · cases (exec_transmit_of_lt f hlt).symm.trans h
      exact .inl rfl
    · cases (exec_transmit_of_le f hle).symm.trans h
      rw [s.finishTransmit_frame]
      exact .inl rfl
  | edge l =>
    cases h
    rw [s.takeEdge_frame]
    exact .inl rfl
  | reserved01110 | reserved01111 | reserved10110 | reserved10111 | reserved11xxx _ =>
    cases h; exact s.refuse_keepsMarkOrRefuses _
  | _ => cases h; exact .inl rfl

/-- Settles O47: an instruction that changes the mark is a refusal, and a refusal keeps a mark that stands. -/
theorem refusalChangesOnlyMark : Obligations.RefusalChangesOnlyMark := by
  unfold Obligations.RefusalChangesOnlyMark
  exact fun _ _ _ h hne => (exec_keepsMarkOrRefuses h).first_mark hne

/-! ### Several lines -/

/-- A step of copy `k` is that copy's own step, put in its place. -/
theorem stepLine_eq_next_iff {lines lines' : List State} {k : Nat} :
    stepLine lines k = some (.next lines') ↔
      ∃ s t, lines[k]? = some s ∧ step s = .next t ∧ lines' = lines.set k t := by
  cases hline : lines[k]? with
  | none => simp [stepLine, hline]
  | some s => cases hstep : step s <;> simp [stepLine, hline, hstep, eq_comm]

/-- Settles O60: `List.set` writes the place of copy `k` and no other. -/
theorem linesAreIndependent : Obligations.LinesAreIndependent := by
  unfold Obligations.LinesAreIndependent
  intro lines lines' k h
  obtain ⟨s, t, hline, hstep, rfl⟩ := stepLine_eq_next_iff.mp h
  obtain ⟨hk, -⟩ := List.getElem?_eq_some_iff.mp hline
  exact ⟨List.length_set, fun j hj => List.getElem?_set_ne hj.symm, s, t, hline, hstep, List.getElem?_set_self hk⟩

end Sys2Proof.Machine
end
